-- ==== Sys2Proof/Word.lean ====
section
/-! DEFINITION. The machine's plain words: bytes, epochs, sets held as eight bits, indices, positions. -/

namespace Sys2Proof

/-- One byte, as sent on the vent line and stored in the serial memory. -/
abbrev Byte := BitVec 8

/-- The 8-bit serial number of section 0.8. -/
abbrev Epoch := BitVec 8

/-- A set of zones 0 to 7 in the manual's own form: bit z is set while zone z is a member (R179). -/
abbrev ZoneSet := BitVec 8

/-- A set of vents V0 to V7: bit v is set while vent v is a member (R181). -/
abbrev VentSet := BitVec 8

/-- A smoke zone, 0 to 7. -/
abbrev Zone := Fin 8

/-- A vent, V0 to V7. -/
abbrev VentId := Fin 8

/-- A channel, C0 to C7. -/
abbrev ChanId := Fin 8

/-- A terminal, T0 to T5. -/
abbrev TermId := Fin 6

/-- The node number of a station, 0 to 29. -/
abbrev StationNode := Fin 30

/-- A length of time, or a point of the model's clock, in microseconds. -/
abbrev Micros := Nat

/-- A position estimate in per mille; `none` is UNKNOWN (section 0.6). -/
abbrev Position := Option Nat

/-- Membership in a set of eight. -/
abbrev memberOf (z : Fin 8) (m : BitVec 8) : Bool := m.getLsbD z.val

/-- The set whose only member is z. -/
abbrev only (z : Fin 8) : BitVec 8 := BitVec.ofNat 8 (2 ^ z.val)

/-- The eight indices of zones, vents and channels, ascending. -/
def eight : List (Fin 8) := [0, 1, 2, 3, 4, 5, 6, 7]

/-- The six terminals, ascending. -/
def six : List (Fin 6) := [0, 1, 2, 3, 4, 5]

end Sys2Proof
end

