-- ==== Sys2Proof/Syntax.lean ====
section
/-! DEFINITION. The commands of spec/opcode_table.json, one constructor of `Instr` each, and the data they carry.

Every command's first argument `dt` is the time in microseconds since the command before it (log entry 1). A command
of a received frame carries `quiet`, the bit times the line had been recessive before that frame's start bit (R147;
log entry 9). -/

namespace Sys2Proof

/-- The two kinds of chip reset (R176). -/
inductive ResetKind where
  | powerOn | resetPin
  deriving DecidableEq, Repr

/-- The demand classes with DEFAULT (R21). -/
inductive DemandClass where
  | default | comfort | manual | weather | fire | brigade
  deriving DecidableEq, Repr

/-- The wind states a WEATHER frame carries (R179). -/
inductive WindState where
  | calm | windy | storm
  deriving DecidableEq, Repr

/-- What a DRAW frame carries (R179). A pending class of `none` is the code 6. -/
structure DrawContent where
  running : Nat
  inrush  : Nat
  pending : Option DemandClass
  deriving DecidableEq, Repr

/-- What a STATUS frame carries (R152, R179). The restart-cause-present flag is set exactly when `cause` is present. -/
structure StatusContent where
  fireMode      : Bool
  battery       : Bool
  lineDegraded  : Bool
  terminalFault : Bool
  nodeClash     : Bool
  areaShort     : Bool
  posUnknown    : Bool
  zones         : ZoneSet
  epoch         : Epoch
  running       : Nat
  pending       : Option DemandClass
  locked        : Nat
  rxErrors      : Nat
  cause         : Option ResetKind
  deriving DecidableEq, Repr

/-- What an AREA frame carries (R103, R179). -/
structure AreaContent where
  zone     : Zone
  primary  : Nat
  offer    : Nat
  called   : Nat
  achieved : Nat
  sat      : Bool
  unknown  : Bool
  short    : Bool
  deriving DecidableEq, Repr

/-- What a WEATHER frame carries (R115, R179). `dir` is the direction field as sent: 65535 for invalid, and every value
of 360 or more reads as invalid (R116). -/
structure WeatherContent where
  speed     : Nat
  dir       : Nat
  wind      : WindState
  rain      : Bool
  vaneFault : Bool
  deriving DecidableEq, Repr

/-- The senders a RESET may have (R155). -/
inductive ResetSender where
  | station (n : StationNode) | panel
  deriving DecidableEq, Repr

/-- The scope of an OVERRIDE (R26). A node or vent index that names nothing of this station is not an error (R179). -/
inductive Scope where
  | all
  | zone (z : Zone)
  | station (n : Nat)
  | vent (n v : Nat)
  deriving DecidableEq, Repr

/-- The classes whose records can expire (R32). -/
inductive TimedClass where
  | manual | comfort
  deriving DecidableEq, Repr

/-- Why a received frame is discarded: the cases of R153. -/
inductive DiscardCause where
  | abandoned | violation | checkByte | length | classOfKind | sender | zoneField | codeField
  deriving DecidableEq, Repr

/-- One constructor per row of spec/opcode_table.json, in the table's order. -/
inductive Instr where
  | powerOnReset (dt : Micros)
  | resetPinReset (dt : Micros)
  | chipResetEnd (dt : Micros)
  | memoryNoAcknowledge (dt : Micros)
  | readAttemptTimeout (dt : Micros)
  | imageReadComplete (dt : Micros) (bytes : List Byte)
  | joinTimerExpiry (dt : Micros)
  | alarmReceived (dt : Micros) (quiet : Nat) (src : StationNode) (zone : Zone) (epoch : Epoch)
  | resetReceived (dt : Micros) (quiet : Nat) (src : ResetSender) (epoch : Epoch)
  | statusReceived (dt : Micros) (quiet : Nat) (src : StationNode) (content : StatusContent)
  | drawReceived (dt : Micros) (quiet : Nat) (src : StationNode) (content : DrawContent)
  | areaReceived (dt : Micros) (quiet : Nat) (src : StationNode) (content : AreaContent)
  | weatherReceived (dt : Micros) (quiet : Nat) (src : StationNode) (content : WeatherContent)
  | comfortReceived (dt : Micros) (quiet : Nat) (zones : ZoneSet) (target hold : Nat)
  | overrideOpen (dt : Micros) (quiet : Nat) (scope : Scope)
  | overrideClose (dt : Micros) (quiet : Nat) (scope : Scope)
  | overrideHold (dt : Micros) (quiet : Nat) (scope : Scope)
  | overrideRelease (dt : Micros) (quiet : Nat) (scope : Scope)
  | frameDiscarded (dt : Micros) (cause : DiscardCause)
  | demandExpiry (dt : Micros) (vent : VentId) (cls : TimedClass)
  | contactPinChange (dt : Micros) (term : TermId) (active : Bool)
  | debounceExpiry (dt : Micros) (term : TermId)
  | loopReading (dt : Micros) (term : TermId) (tenthsMilliamp : Nat)
  | confirmationExpiry (dt : Micros) (term : TermId)
  | loopFaultTimerExpiry (dt : Micros) (term : TermId)
  | powerCycleExpiry (dt : Micros) (term : TermId)
  | mainsPinChange (dt : Micros) (term : TermId) (active : Bool)
  | mainsLossTimerExpiry (dt : Micros)
  | mainsReturnTimerExpiry (dt : Micros)
  | rainComparatorChange (dt : Micros) (term : TermId) (wet : Bool)
  | rainConfirmationExpiry (dt : Micros)
  | dryHoldExpiry (dt : Micros)
  | anemometerPulse (dt : Micros) (term : TermId)
  | calmTimeout (dt : Micros)
  | vaneReading (dt : Micros) (term : TermId) (reading : Nat)
  | windHoldExpiry (dt : Micros)
  | persistenceExpiry (dt : Micros) (vent : VentId)
  | heartbeatExpiry (dt : Micros) (recessiveBits : Nat)
  | recoveryDrawSent (dt : Micros)
  | frameStart (dt : Micros) (recessiveBits : Nat)
  | arbitrationLost (dt : Micros)
  | bitError (dt : Micros)
  | frameSentWithoutError (dt : Micros)
  | muteTimerExpiry (dt : Micros)
  | stuckLine (dt : Micros)
  | inrushWindowEnd (dt : Micros) (chan : ChanId)
  | peerInrushExpiry (dt : Micros) (node : StationNode)
  | peerStale (dt : Micros) (node : StationNode)
  | peerEviction (dt : Micros) (node : StationNode)
  | weatherRecordAge (dt : Micros) (node : StationNode)
  | stopTimeReached (dt : Micros) (vent : VentId)
  | startWindowEnd (dt : Micros) (chan : ChanId)
  | endFilterExpiry (dt : Micros) (chan : ChanId)
  | stallFilterExpiry (dt : Micros) (chan : ChanId)
  | shortDetected (dt : Micros) (chan : ChanId)
  | runLimitReached (dt : Micros) (vent : VentId)
  | dwellExpiry (dt : Micros) (vent : VentId)
  | coolDownExpiry (dt : Micros) (vent : VentId)
  | channelCurrentReading (dt : Micros) (chan : ChanId) (milliamps : Nat)
  deriving DecidableEq, Repr

end Sys2Proof
end

