-- ==== Sys2Proof/WellFormed.lean ====
section
/-! DEFINITION. Which commands are well formed: every operand a value its source can hold (the width of a frame field,
R179; the range of a reading; the length of the image). The meanings are total all the same. -/

namespace Sys2Proof

/-- The value fits n bits. -/
def fits (n x : Nat) : Bool := decide (x < 2 ^ n)

/-- R179: the DRAW fields are two bytes each. -/
def DrawContent.wellFormed (c : DrawContent) : Bool := fits 16 c.running && fits 16 c.inrush

/-- R179: the STATUS draw is two bytes, the two counts one byte each. -/
def StatusContent.wellFormed (c : StatusContent) : Bool :=
  fits 16 c.running && fits 8 c.locked && fits 8 c.rxErrors

/-- R179: the four AREA figures are two bytes each. -/
def AreaContent.wellFormed (c : AreaContent) : Bool :=
  fits 16 c.primary && fits 16 c.offer && fits 16 c.called && fits 16 c.achieved

/-- R179: the WEATHER speed and direction are two bytes each. -/
def WeatherContent.wellFormed (c : WeatherContent) : Bool := fits 16 c.speed && fits 16 c.dir

/-- R179: the node and the vent index of a scope are one byte each. -/
def Scope.wellFormed : Scope → Bool
  | .all | .zone _ => true
  | .station n => fits 8 n
  | .vent n v => fits 8 n && fits 8 v

/-- The operands of a command are values their sources can hold. -/
def Instr.wellFormed : Instr → Bool
  | .imageReadComplete _ bytes => bytes.length == 202
  | .statusReceived _ _ _ c => c.wellFormed
  | .drawReceived _ _ _ c => c.wellFormed
  | .areaReceived _ _ _ c => c.wellFormed
  | .weatherReceived _ _ _ c => c.wellFormed
  | .comfortReceived _ _ _ target hold => fits 16 target && fits 8 hold
  | .overrideOpen _ _ scope | .overrideClose _ _ scope => scope.wellFormed
  | .overrideHold _ _ scope | .overrideRelease _ _ scope => scope.wellFormed
  | .loopReading _ term x => decide (x ≤ 600) && decide (term.val ≤ 3)
  | .vaneReading _ term r => fits 10 r && decide (term.val ≤ 3)
  | .powerOnReset _ | .resetPinReset _ | .chipResetEnd _ | .memoryNoAcknowledge _ | .readAttemptTimeout _ => true
  | .joinTimerExpiry _ | .alarmReceived _ _ _ _ _ | .resetReceived _ _ _ _ | .frameDiscarded _ _ => true
  | .demandExpiry _ _ _ | .contactPinChange _ _ _ | .debounceExpiry _ _ | .confirmationExpiry _ _ => true
  | .loopFaultTimerExpiry _ _ | .powerCycleExpiry _ _ | .mainsPinChange _ _ _ | .mainsLossTimerExpiry _ => true
  | .mainsReturnTimerExpiry _ | .rainComparatorChange _ _ _ | .rainConfirmationExpiry _ | .dryHoldExpiry _ => true
  | .anemometerPulse _ _ | .calmTimeout _ | .windHoldExpiry _ | .persistenceExpiry _ _ | .heartbeatExpiry _ _ => true
  | .recoveryDrawSent _ | .frameStart _ _ | .arbitrationLost _ | .bitError _ | .frameSentWithoutError _ => true
  | .muteTimerExpiry _ | .stuckLine _ | .inrushWindowEnd _ _ | .peerInrushExpiry _ _ | .peerStale _ _ => true
  | .peerEviction _ _ | .weatherRecordAge _ _ | .stopTimeReached _ _ | .startWindowEnd _ _ | .endFilterExpiry _ _ => true
  | .stallFilterExpiry _ _ | .shortDetected _ _ | .runLimitReached _ _ | .dwellExpiry _ _ | .coolDownExpiry _ _ => true
  | .channelCurrentReading _ _ _ => true

end Sys2Proof
end

