-- ==== Sys2Proof/Decode.lean ====
section
/-! DEFINITION. The reading of a table word. spec/opcode_table.json gives none of its rows any bits ("fields" is empty
in each, and no row has "fixed"), so no word spells a command (log entry 20). The frames of the vent line, whose bits
the spec does give, are read in Machine/Formats.lean. -/

namespace Sys2Proof

/-- The command a word spells by the table's bits: none, for no row of the table gives bits. -/
def decodeTableWord (_nbits _w : Nat) : Option Instr := none

end Sys2Proof
end

