-- ==== Sys2Proof/Config.lean ====
section
/-! DEFINITION. The fixed times and thresholds the rules state, in the model's units. The values an installation
chooses stand in the configuration image (Machine/State.lean, Image); nothing here is left open by the manual. -/

namespace Sys2Proof.Config

/-- One millisecond in microseconds. -/
def ms (n : Nat) : Micros := n * 1000

/-- One second in microseconds. -/
def sec (n : Nat) : Micros := n * 1000000

/-- One minute in microseconds. -/
def minute (n : Nat) : Micros := n * 60000000

/-- R170: a read attempt is abandoned 200 ms after it began. -/
def readAttempt : Micros := ms 200

/-- R174: the JOIN timer. -/
def join : Micros := sec 1

/-- R126: the debounce. -/
def debounce : Micros := ms 50

/-- R130: the loop confirmation. -/
def confirmation : Micros := sec 2

/-- R131: the loop fault filter. -/
def loopFault : Micros := sec 2

/-- R132: the loop power cycle. -/
def powerCycle : Micros := sec 5

/-- R134: the mains loss timer. -/
def mainsLoss : Micros := sec 2

/-- R134: the mains return timer. -/
def mainsReturn : Micros := sec 30

/-- R111: the rain confirmation. -/
def rainConfirm : Micros := sec 1

/-- R111: the dry hold. -/
def dryHold : Micros := sec 600

/-- R108: a pulse sooner than this after the last accepted one is rejected. -/
def pulseReject : Micros := ms 2

/-- R108: the calm timeout. -/
def calm : Micros := sec 2

/-- R119: the persistence time of a windward verdict. -/
def persistence : Micros := sec 20

/-- R151: the heartbeat in fire mode and outside it. -/
def heartbeatFire : Micros := sec 1

/-- R151: the heartbeat outside fire mode. -/
def heartbeatCalm : Micros := sec 2

/-- R145: the mute timer. -/
def mute : Micros := sec 10

/-- R145: the drops in a row that mute the line. -/
def muteFailures : Nat := 16

/-- R144: the errors that drop a frame. -/
def dropErrors : Nat := 3

/-- R148: the frames the transmit queue holds. -/
def queueSize : Nat := 6

/-- R147: the recessive bit times after which the line counts as recovered. -/
def recoveryQuiet : Nat := 10

/-- R165: an entry goes STALE. -/
def stale : Micros := sec 5

/-- R166: an entry is evicted. -/
def evict : Micros := sec 30

/-- R163: a weather record is withdrawn. -/
def weatherAge : Micros := sec 5

/-- R48: the start window. -/
def startWindow : Micros := ms 300

/-- R49: the end filter. -/
def endFilter : Micros := ms 200

/-- R50: the stall filter. -/
def stallFilter : Micros := ms 500

/-- R57: the reversal dwell. -/
def dwell : Micros := ms 300

/-- R58: the stall cool-down. -/
def coolDown : Micros := sec 5

/-- R48: the idle threshold in mA. -/
def idleMilliamps : Nat := 50

/-- R48, R51: the short threshold in mA. -/
def shortMilliamps : Nat := 12000

/-- R50: the stalls a vent is given before it locks. -/
def stallRetries : Nat := 3

/-- R38: where the intermediate-stop count saturates. -/
def stopLimit : Nat := 8

/-- R109: the highest speed, in 0.1 m/s. -/
def maxSpeed : Nat := 600

end Sys2Proof.Config
end

