-- ==== Sys2Proof/Machine/Arith.lean ====
section
/-! DEFINITION. Arithmetic of section 0.8: rounding, clamping, epoch comparison, timers, sets of eight. -/

namespace Sys2Proof.Machine

/-- Division rounded to the nearest integer, halves to the even one (section 0.8, Rounding). -/
def roundEven (a b : Nat) : Nat :=
  let q := a / b
  let r := a % b
  if 2 * r < b then q
  else if b < 2 * r then q + 1
  else if q % 2 = 0 then q else q + 1

/-- Division rounded toward plus infinity (section 0.8; R45). -/
def ceilDiv (a b : Nat) : Nat := (a + b - 1) / b

/-- Section 0.8, Clamping. -/
def clamp (lo hi x : Nat) : Nat := if x < lo then lo else if hi < x then hi else x

/-- Section 0.8, Epoch comparison: a is newer than b when (a − b) mod 256 lies in 1 to 127. -/
def newer (a b : Epoch) : Bool := decide (1 ≤ (a - b).toNat) && decide ((a - b).toNat ≤ 127)

/-- A timer is due when it is running and its time has come (log entry 2). -/
def due (timer : Option Micros) (now : Micros) : Bool :=
  match timer with
  | none => false
  | some t => decide (t ≤ now)

/-- The lowest member of a set, or none (section 0.6, Lead zone; R161). -/
def lowest (m : BitVec 8) : Option (Fin 8) := eight.find? fun z => memberOf z m

/-- A set of eight with one member taken out. -/
def without (m : BitVec 8) (z : Fin 8) : BitVec 8 := m &&& ~~~ only z

/-- One more, up to a limit (R38: the count saturates; R153: the count stops). -/
def saturate (limit x : Nat) : Nat := if x < limit then x + 1 else x

/-- Adds up a figure over the eight vents or channels. -/
def sumOver (f : Fin 8 → Nat) : Nat := (eight.map f).sum

/-- Counts the vents or channels for which a test holds. -/
def countOf (p : Fin 8 → Bool) : Nat := (eight.filter p).length

/-- The angle between two directions, 0 to 180 (R118). -/
def angleBetween (w f : Nat) : Nat :=
  let d := if w ≤ f then f - w else w - f
  if 180 < d then 360 - d else d

end Sys2Proof.Machine
end

