-- ==== Sys2Proof/Machine/State.lean ====
section
/-! DEFINITION. The station's whole state as plain data, one structure per block of section 0.3, and its reset values. -/

namespace Sys2Proof.Machine

/-- No event of the manual stops the machine: every command answers a next state, so there is no fault (log entry 24). -/
inductive Fault where
  deriving DecidableEq, Repr

/-- The only refusal is the one for a command whose meaning is still missing; no command is (log entry 24). -/
inductive Refusal where
  /-- Raised by `exec` alone, for a row with no meaning yet. Safe. No arm raises it. -/
  | notModelled (mnemonic : String)
  deriving DecidableEq, Repr

/-! ### Configuration image (R172, R181) -/

/-- Vent roles (section 0.6). -/
inductive Role where
  | none | primary | reserve | inlet
  deriving DecidableEq, Repr

/-- A vent record of the image (R181). `facing` is `none` for FLAT. -/
structure VentCfg where
  used       : Bool
  tandem     : Bool
  comfort    : Bool
  rainClose  : Bool
  stormClose : Bool
  chan       : ChanId
  role       : Role
  home       : Zone
  mask       : ZoneSet
  facing     : Option Nat
  area       : Nat
  cd         : Nat
  openTime   : Nat
  closeTime  : Nat
  running    : Nat
  inrush     : Nat
  stall      : Nat
  rank       : Nat
  deriving DecidableEq, Repr

/-- The record of an unused vent, whose fields are read for no purpose (R181). -/
def VentCfg.unused : VentCfg :=
  { used := false, tandem := false, comfort := false, rainClose := false, stormClose := false, chan := 0,
    role := .none, home := 0, mask := 0, facing := Option.none, area := 1, cd := 1, openTime := 1, closeTime := 1,
    running := 1, inrush := 1, stall := 1, rank := 0 }

/-- Terminal functions with the parameter of those that take one (R124). -/
inductive TermFn where
  | unused
  | smokeLoop (zone : Zone)
  | callPoint (zone : Zone)
  | keyOpen
  | keyClose
  | manualOpen (mask : VentSet)
  | manualClose (mask : VentSet)
  | rainSense
  | windPulse
  | windVane
  | mainsMonitor
  | signalOut
  | resetButton
  | lampFire
  deriving DecidableEq, Repr

/-- The clamped configuration image (R172, R181). `signals` is the signal selection set, bit 0 for FIRE_MODE up to
bit 8 for NODE_CLASH (R181). -/
structure Image where
  node       : Nat
  feedLimit  : Nat
  maxMotors  : Nat
  inrushMs   : Nat
  manualHold : Nat
  alpha      : Nat
  windyOn    : Nat
  windyOff   : Nat
  stormOn    : Nat
  stormOff   : Nat
  windyHold  : Nat
  stormHold  : Nat
  required   : Vector Nat 8
  vents      : Vector VentCfg 8
  terms      : Vector TermFn 6
  signals    : BitVec 9
  anemometer : Nat
  vaneOffset : Nat
  deriving DecidableEq, Repr

/-- The empty configuration of LOADING and FALLBACK: no vent, no terminal function (R125, R173, R175). The node number
30 is no station's: in FALLBACK the station has none (R156, R175). -/
def Image.empty : Image :=
  { node := 30, feedLimit := 10, maxMotors := 1, inrushMs := 100, manualHold := 0, alpha := 30, windyOn := 10,
    windyOff := 0, stormOn := 10, stormOff := 0, windyHold := 0, stormHold := 0, required := Vector.replicate 8 0,
    vents := Vector.replicate 8 VentCfg.unused, terms := Vector.replicate 6 TermFn.unused, signals := 0,
    anemometer := 1, vaneOffset := 0 }

/-! ### Start-up (chapter 10) -/

/-- The station states (10.1), with the chip reset that lasts between two of them (R176). -/
inductive Station where
  | inReset (kind : ResetKind) | loading | join | run | fallback
  deriving DecidableEq, Repr

/-- The loader states (R170). -/
inductive Loader where
  | loading | done | failed
  deriving DecidableEq, Repr

/-- Station state, loader state, the attempt under way and its begin, the JOIN timer (R170, R174). -/
structure Boot where
  station   : Station
  loader    : Loader
  attempt   : Nat
  attemptAt : Micros
  joinEnds  : Option Micros
  deriving DecidableEq, Repr

/-! ### Fire State Logic (R1) -/

/-- The stored items of R1; the lead zone and fire mode follow from the set. -/
structure Fire where
  zones : ZoneSet
  epoch : Epoch
  known : Bool
  deriving DecidableEq, Repr

/-- R1: the values after a chip reset. -/
def Fire.reset : Fire := { zones := 0, epoch := 0, known := false }

/-! ### Demand Arbiter (R21) -/

/-- A target: a position or HOLD (section 0.6). -/
inductive Target where
  | pos (p : Nat) | hold
  deriving DecidableEq, Repr

/-- The origins of a record (R21). -/
inductive Origin where
  | key | panel | terminal (t : TermId) | gateway | firePattern | weather
  deriving DecidableEq, Repr

/-- A demand record (R21). -/
structure Record where
  target : Target
  origin : Origin
  expiry : Option Micros
  deriving DecidableEq, Repr

/-- The five optional records of a vent (R21). -/
structure Records where
  brigade : Option Record
  fire    : Option Record
  weather : Option Record
  manual  : Option Record
  comfort : Option Record
  deriving DecidableEq, Repr

/-- R21: every record is absent after a chip reset. -/
def Records.reset : Records :=
  { brigade := none, fire := none, weather := none, manual := none, comfort := none }

/-! ### Drive Unit (R38) -/

/-- The vent states (3.2). -/
inductive VentState where
  | idle | waitSupply | announced | runOpen | runClose | dwell | stalled | locked
  deriving DecidableEq, Repr

/-- The directions of a run. -/
inductive Dir where
  | opening | closing
  deriving DecidableEq, Repr

/-- The kinds of run (R38). -/
inductive RunKind where
  | toEnd | toStop | anchoring
  deriving DecidableEq, Repr

/-- The fault kinds of a vent (R38). -/
inductive FaultKind where
  | none | stallLimit | short | openCircuit | runTimeout
  deriving DecidableEq, Repr

/-- What the Drive Unit holds per vent (R38), with the timers of R57 and R58 and the join time of R68. `committed` is the
model's own (R83; log entry 35): where a commit check began the last run, the direction of the last run before it. -/
structure Vent where
  state     : VentState
  target    : Target
  cls       : DemandClass
  runKind   : Option RunKind
  runStart  : Micros
  stopTime  : Option Micros
  lastDir   : Option Dir
  retries   : Nat
  stops     : Nat
  fault     : FaultKind
  joinTime  : Micros
  dwellEnds : Option Micros
  coolEnds  : Option Micros
  committed : Option (Option Dir)
  deriving DecidableEq, Repr

/-- R62, R21: a vent after a chip reset. -/
def Vent.reset : Vent :=
  { state := .idle, target := .pos 0, cls := .default, runKind := none, runStart := 0, stopTime := none,
    lastDir := none, retries := 0, stops := 0, fault := .none, joinTime := 0, dwellEnds := none, coolEnds := none,
    committed := none }

/-- What the Drive Unit holds per channel (R38), with the scheduler's inrush window (R66). `drew` says that the reading
reached idle during the open start window (R48). -/
structure Channel where
  estimate    : Position
  startPos    : Position
  driven      : Option Dir
  reading     : Nat
  window      : Option Micros
  drew        : Bool
  endFilter   : Option Micros
  stallFilter : Option Micros
  inrush      : Option Micros
  deriving DecidableEq, Repr

/-- R62: a channel after a chip reset. -/
def Channel.reset : Channel :=
  { estimate := none, startPos := none, driven := none, reading := 0, window := none, drew := false,
    endFilter := none, stallFilter := none, inrush := none }

/-! ### Supply Scheduler (R66) -/

/-- A start in progress: the vent in ANNOUNCED, and the number that tells one start from another (R73). -/
structure Start where
  vent : VentId
  id   : Nat
  deriving DecidableEq, Repr

/-- The stored items of R66. -/
structure Supply where
  start    : Option Start
  mark     : Option Nat
  lastDraw : Option DrawContent
  nextId   : Nat
  deriving DecidableEq, Repr

/-- R66: the values after a chip reset. -/
def Supply.reset : Supply := { start := none, mark := none, lastDraw := none, nextId := 0 }

/-! ### Area Balance Unit (R85) -/

/-- The stored items of R85 but the requirement table, which stands in the image. -/
structure Area where
  balance   : Option Zone
  primary   : Nat
  offer     : Nat
  called    : Nat
  achieved  : Nat
  take      : Nat
  calledSet : VentSet
  sat       : Bool
  unknown   : Bool
  short     : Bool
  lastSent  : Option AreaContent
  deriving DecidableEq, Repr

/-- R85: the values after a chip reset, and outside fire mode. -/
def Area.reset : Area :=
  { balance := none, primary := 0, offer := 0, called := 0, achieved := 0, take := 0, calledSet := 0, sat := false,
    unknown := false, short := false, lastSent := none }

/-! ### Weather Unit (R106) -/

/-- The wind states of a receiver (0.5): an own or received state, or UNKNOWN. -/
inductive EffWind where
  | known (w : WindState) | unknown
  deriving DecidableEq, Repr

/-- The source and receiving items of R106, with the rain confirmation of R111. -/
structure Weather where
  history     : List Nat
  lastPulse   : Option Micros
  speed       : Nat
  dir         : Option Nat
  vaneFault   : Bool
  wetFiltered : Bool
  rainConfirm : Option Micros
  rain        : Bool
  dryHold     : Option Micros
  wind        : WindState
  windHold    : Option Micros
  selected    : Option StationNode
  effWind     : EffWind
  effDir      : Option Nat
  effRain     : Bool
  deriving DecidableEq, Repr

/-- R106: the values after a chip reset. -/
def Weather.reset : Weather :=
  { history := [], lastPulse := none, speed := 0, dir := none, vaneFault := false, wetFiltered := false,
    rainConfirm := none, rain := false, dryHold := none, wind := .calm, windHold := none, selected := none,
    effWind := .unknown, effDir := none, effRain := false }

/-- The per-vent items of R106. -/
structure Windward where
  candidate : Bool
  flag      : Bool
  persist   : Option Micros
  deriving DecidableEq, Repr

/-- R106: the values after a chip reset. -/
def Windward.reset : Windward := { candidate := false, flag := false, persist := none }

/-! ### Terminal Unit (R125) -/

/-- The loop states (R130). -/
inductive LoopState where
  | off | watch | confirming | confirmed
  deriving DecidableEq, Repr

/-- The bands of a loop reading (R129). -/
inductive Band where
  | open | normal | alarm | short
  deriving DecidableEq, Repr

/-- The filter items of R125 for one terminal; its function stands in the image. -/
structure Term where
  debounced  : Bool
  debounce   : Option Micros
  loop       : LoopState
  band       : Option Band
  confirm    : Option Micros
  faultTimer : Option Micros
  cycle      : Option Micros
  fault      : Bool
  deriving DecidableEq, Repr

/-- R125: the values after a chip reset. -/
def Term.reset : Term :=
  { debounced := false, debounce := none, loop := .off, band := none, confirm := none, faultTimer := none,
    cycle := none, fault := false }

/-- The Supply State and its two timers (R125, R134). -/
structure Mains where
  battery : Bool
  loss    : Option Micros
  back    : Option Micros
  deriving DecidableEq, Repr

/-- R125: NORMAL, timers stopped. -/
def Mains.reset : Mains := { battery := false, loss := none, back := none }

/-! ### Line Controller (R140) -/

/-- The frames a station sends (section 0.4). -/
inductive Frame where
  | alarm (zone : Zone) (epoch : Epoch)
  | reset (epoch : Epoch)
  | draw (c : DrawContent)
  | status (c : StatusContent)
  | area (c : AreaContent)
  | weather (c : WeatherContent)
  deriving DecidableEq, Repr

/-- A frame in the transmit queue: the event that took it or whose place it took (R148), and, for a DRAW, the number of
the start whose announcement it carries (R73). -/
structure Queued where
  frame : Frame
  stamp : Nat
  ann   : Option Nat
  deriving DecidableEq, Repr

/-- The line states (0.5). -/
inductive LineState where
  | ok | mute | lost | listenOnly
  deriving DecidableEq, Repr

/-- The items of R140. `tx` is the frame in transmission and `waiting` the other frames in the order of R148; `sending`
says that `tx` is on the line now, `recovery` that a recovery DRAW is (R147; log entries 15 and 43). -/
structure Line where
  state     : LineState
  waiting   : List Queued
  tx        : Option Queued
  sending   : Bool
  errors    : Nat
  failures  : Nat
  ownLast   : Bool
  mute      : Option Micros
  heartbeat : Option Micros
  rxErrors  : Nat
  clash     : Bool
  latch     : Bool
  cause     : Option ResetKind
  recovery  : Option DrawContent
  deriving DecidableEq, Repr

/-- R140: the values after a chip reset of the kind given. -/
def Line.reset (kind : ResetKind) : Line :=
  { state := .ok, waiting := [], tx := none, sending := false, errors := 0, failures := 0, ownLast := false,
    mute := none, heartbeat := none, rxErrors := 0, clash := false, latch := false, cause := some kind,
    recovery := none }

/-! ### Peer Table (R158) -/

/-- The area record of a peer (R158). -/
structure PeerArea where
  zone    : Zone
  primary : Nat
  offer   : Nat
  deriving DecidableEq, Repr

/-- The weather record of a peer (R158). `dir` is `none` for invalid (R163). -/
structure PeerWeather where
  dir   : Option Nat
  wind  : WindState
  rain  : Bool
  heard : Micros
  deriving DecidableEq, Repr

/-- A peer entry (R158); the table is indexed by its node. -/
structure Peer where
  fresh      : Bool
  heard      : Micros
  zones      : ZoneSet
  epoch      : Option Epoch
  running    : Nat
  inrush     : Nat
  inrushEnds : Option Micros
  pending    : Option DemandClass
  area       : Option PeerArea
  weather    : Option PeerWeather
  deriving DecidableEq, Repr

/-- R159: a created entry before its first frame's fields are applied. -/
def Peer.created (now : Micros) : Peer :=
  { fresh := true, heard := now, zones := 0, epoch := none, running := 0, inrush := 0, inrushEnds := none,
    pending := none, area := none, weather := none }

/-! ### The machine -/

/-- The machine. `now`, `event` and `pending` are the model's own (log entries 1, 25); every other field is a block of
section 0.3. -/
structure State where
  now       : Micros
  event     : Nat
  pending   : List Instr
  boot      : Boot
  image     : Image
  fire      : Fire
  demand    : Vector Records 8
  vents     : Vector Vent 8
  chans     : Vector Channel 8
  retention : Vector Position 8
  supply    : Supply
  area      : Area
  weather   : Weather
  windward  : Vector Windward 8
  terms     : Vector Term 6
  pins      : Vector Bool 6
  mains     : Mains
  outputs   : Vector Bool 6
  line      : Line
  peers     : Vector (Option Peer) 30
  deriving DecidableEq, Repr

/-- The machine right after a POWER_ON reset has ended: LOADING, the first read attempt begun (R170, R176; log
entry 4). -/
def State.reset : State :=
  { now := 0, event := 0, pending := [],
    boot := { station := .loading, loader := .loading, attempt := 1, attemptAt := 0, joinEnds := none },
    image := Image.empty, fire := Fire.reset, demand := Vector.replicate 8 Records.reset,
    vents := Vector.replicate 8 Vent.reset, chans := Vector.replicate 8 Channel.reset,
    retention := Vector.replicate 8 none, supply := Supply.reset, area := Area.reset, weather := Weather.reset,
    windward := Vector.replicate 8 Windward.reset, terms := Vector.replicate 6 Term.reset,
    pins := Vector.replicate 6 false, mains := Mains.reset, outputs := Vector.replicate 6 false,
    line := Line.reset .powerOn, peers := Vector.replicate 30 none }

/-! ### Field updates, each with its lemmas in Laws/State.lean -/

def State.withNow (s : State) (x : Micros) : State := { s with now := x }
def State.withEvent (s : State) (x : Nat) : State := { s with event := x }
def State.withPending (s : State) (x : List Instr) : State := { s with pending := x }
def State.withBoot (s : State) (x : Boot) : State := { s with boot := x }
def State.withImage (s : State) (x : Image) : State := { s with image := x }
def State.withFire (s : State) (x : Fire) : State := { s with fire := x }
def State.withDemand (s : State) (x : Vector Records 8) : State := { s with demand := x }
def State.withVents (s : State) (x : Vector Vent 8) : State := { s with vents := x }
def State.withChans (s : State) (x : Vector Channel 8) : State := { s with chans := x }
def State.withRetention (s : State) (x : Vector Position 8) : State := { s with retention := x }
def State.withSupply (s : State) (x : Supply) : State := { s with supply := x }
def State.withArea (s : State) (x : Area) : State := { s with area := x }
def State.withWeather (s : State) (x : Weather) : State := { s with weather := x }
def State.withWindward (s : State) (x : Vector Windward 8) : State := { s with windward := x }
def State.withTerms (s : State) (x : Vector Term 6) : State := { s with terms := x }
def State.withPins (s : State) (x : Vector Bool 6) : State := { s with pins := x }
def State.withMains (s : State) (x : Mains) : State := { s with mains := x }
def State.withOutputs (s : State) (x : Vector Bool 6) : State := { s with outputs := x }
def State.withLine (s : State) (x : Line) : State := { s with line := x }
def State.withPeers (s : State) (x : Vector (Option Peer) 30) : State := { s with peers := x }

end Sys2Proof.Machine
end

