-- ==== Sys2Proof/Machine/Ops.lean ====
section
/-! DEFINITION. Named reads and writes of State that every block uses: the parts of a vent, a channel, a terminal and a
peer entry, channels and their vents (R37), and the passing of time. -/

namespace Sys2Proof.Machine

/-! ### Updates of one element -/

/-- Change one vent's Drive Unit items. -/
def State.updVent (s : State) (v : VentId) (f : Vent → Vent) : State := s.withVents (s.vents.set v (f s.vents[v]))

/-- Change one channel's items. -/
def State.updChan (s : State) (c : ChanId) (f : Channel → Channel) : State := s.withChans (s.chans.set c (f s.chans[c]))

/-- Change one vent's demand records. -/
def State.updRecords (s : State) (v : VentId) (f : Records → Records) : State :=
  s.withDemand (s.demand.set v (f s.demand[v]))

/-- Change one vent's windward items. -/
def State.updWindward (s : State) (v : VentId) (f : Windward → Windward) : State :=
  s.withWindward (s.windward.set v (f s.windward[v]))

/-- Change one terminal's filter items. -/
def State.updTerm (s : State) (t : TermId) (f : Term → Term) : State := s.withTerms (s.terms.set t (f s.terms[t]))

/-- Set one pin's level. -/
def State.setPin (s : State) (t : TermId) (x : Bool) : State := s.withPins (s.pins.set t x)

/-- Set or remove one peer's entry. -/
def State.setPeer (s : State) (n : StationNode) (x : Option Peer) : State := s.withPeers (s.peers.set n x)

/-- Change the Line Controller's items. -/
def State.updLine (s : State) (f : Line → Line) : State := s.withLine (f s.line)

/-- Change the Weather Unit's station-wide items. -/
def State.updWeather (s : State) (f : Weather → Weather) : State := s.withWeather (f s.weather)

/-- Change the Supply Scheduler's items. -/
def State.updSupply (s : State) (f : Supply → Supply) : State := s.withSupply (f s.supply)

/-- Apply an operation to the eight vents or channels in ascending order. -/
def forEight (f : State → Fin 8 → State) (s : State) : State := eight.foldl f s

/-- Apply an operation to the six terminals in ascending order. -/
def forSix (f : State → Fin 6 → State) (s : State) : State := six.foldl f s

/-! ### Configuration -/

/-- A vent's record in the image. -/
def State.cfg (s : State) (v : VentId) : VentCfg := s.image.vents[v]

/-- A terminal's function (R124). -/
def State.fn (s : State) (t : TermId) : TermFn := s.image.terms[t]

/-- The image marks the vent as used. -/
def State.used (s : State) (v : VentId) : Bool := (s.cfg v).used

/-- R37, R181: the channels of a vent. -/
def VentCfg.channels (c : VentCfg) : List ChanId :=
  if c.used then if c.tandem then [c.chan, c.chan + 1] else [c.chan] else []

/-- The channels of a vent. -/
def State.channels (s : State) (v : VentId) : List ChanId := (s.cfg v).channels

/-- R37: the used vent that a channel drives, if any. -/
def State.owner (s : State) (c : ChanId) : Option VentId := eight.find? fun v => (s.channels v).contains c

/-- Apply an operation to every channel of a vent. -/
def forChannels (v : VentId) (f : State → ChanId → State) (s : State) : State := (s.channels v).foldl f s

/-- JOIN or RUN: the blocks work (R174). -/
def State.active (s : State) : Bool := decide (s.boot.station = .join) || decide (s.boot.station = .run)

/-- RUN. -/
def State.inRun (s : State) : Bool := decide (s.boot.station = .run)

/-- R1: the lead zone follows from the set. -/
def State.leadZone (s : State) : Option Zone := lowest s.fire.zones

/-- R1: fire mode follows from the set. -/
def State.fireMode (s : State) : Bool := decide (s.fire.zones ≠ 0)

/-- R107: the station is a weather source. -/
def State.isSource (s : State) : Bool :=
  six.any fun t => s.fn t == .rainSense || s.fn t == .windPulse || s.fn t == .windVane

/-- R124: the lowest-numbered terminal of a function is the one evaluated. -/
def State.firstTerm (s : State) (f : TermFn) : Option TermId := six.find? fun t => s.fn t == f

/-! ### Time -/

/-- Time passes and the next event begins (log entries 1, 25). -/
def State.tick (s : State) (dt : Micros) : State := (s.withNow (s.now + dt)).withEvent (s.event + 1)

/-! ### Vents -/

/-- The rank of a class (R21). -/
def classRank : DemandClass → Nat
  | .default => 0
  | .comfort => 1
  | .manual => 2
  | .weather => 3
  | .fire => 4
  | .brigade => 5

/-- The rank of a pending class; none lies below every rank (R71). -/
def pendingRank (c : Option DemandClass) : Nat :=
  match c with
  | none => 0
  | some k => classRank k + 1

/-- The vent is running. -/
def VentState.running (x : VentState) : Bool := x == .runOpen || x == .runClose

/-- The direction of a RUN state. -/
def VentState.dir (x : VentState) : Option Dir :=
  match x with
  | .runOpen => some .opening
  | .runClose => some .closing
  | _ => none

/-- The RUN state of a direction. -/
def Dir.runState (d : Dir) : VentState :=
  match d with
  | .opening => .runOpen
  | .closing => .runClose

/-- The position of the end a direction leads to (R46). -/
def Dir.endPos (d : Dir) : Nat :=
  match d with
  | .opening => 1000
  | .closing => 0

/-- The travel time, in ds, of a direction (R44). -/
def VentCfg.travel (c : VentCfg) (d : Dir) : Nat :=
  match d with
  | .opening => c.openTime
  | .closing => c.closeTime

/-- R44: the position reached from p0 after `e` microseconds. In milliseconds the rule's floor is
1000 × t / (T × 100); with e = 1000 × t that is e / (T × 100) (log entry 11). -/
def travelled (c : VentCfg) (d : Dir) (p0 : Nat) (e : Micros) : Nat :=
  match d with
  | .opening => min 1000 (p0 + e / (c.openTime * 100))
  | .closing => p0 - e / (c.closeTime * 100)

/-- R44: a channel's estimate now: the stored one at rest, the formula's while it is driven. -/
def State.chanPos (s : State) (v : VentId) (c : ChanId) : Position :=
  match s.chans[c].driven with
  | none => s.chans[c].estimate
  | some d => s.chans[c].startPos.map fun p0 => travelled (s.cfg v) d p0 (s.now - s.vents[v].runStart)

/-- R37: the position of a vent, the smaller of a tandem pair's estimates, UNKNOWN when either is. -/
def State.ventPos (s : State) (v : VentId) : Position :=
  match s.channels v with
  | [] => none
  | [c] => s.chanPos v c
  | c :: d :: _ =>
    match s.chanPos v c, s.chanPos v d with
    | some p, some q => some (min p q)
    | _, _ => none

/-- Every channel of the vent is known (R39). -/
def State.allKnown (s : State) (v : VentId) : Bool := (s.channels v).all fun c => (s.chanPos v c).isSome

/-- R37: the two channels of a tandem vent agree when both are known and equal. A single channel has no partner to
disagree with. -/
def State.agree (s : State) (v : VentId) : Bool :=
  match s.channels v with
  | c :: d :: _ => (s.chanPos v c).isSome && s.chanPos v c == s.chanPos v d
  | _ => true

/-- A channel of the vent is still driven. -/
def State.anyDriven (s : State) (v : VentId) : Bool := (s.channels v).any fun c => s.chans[c].driven.isSome

/-- At least one used vent is LOCKED; how many (R64). -/
def State.lockedCount (s : State) : Nat := countOf fun v => s.used v && s.vents[v].state == .locked

/-- R64: some used vent's position is UNKNOWN. -/
def State.positionUnknown (s : State) : Bool := eight.any fun v => s.used v && (s.ventPos v).isNone

end Sys2Proof.Machine
end

