-- ==== Sys2Proof/Machine/Demand.lean ====
section
/-! DEFINITION. The Demand Arbiter's records (chapter 2): effective demand, brigade arrivals, the key position, the fire
pattern and the weather closing records. -/

namespace Sys2Proof.Machine

/-- R22: the record of highest rank present with its class, or none. -/
def Records.top (r : Records) : Option (DemandClass × Record) :=
  match r.brigade, r.fire, r.weather, r.manual, r.comfort with
  | some x, _, _, _, _ => some (.brigade, x)
  | none, some x, _, _, _ => some (.fire, x)
  | none, none, some x, _, _ => some (.weather, x)
  | none, none, none, some x, _ => some (.manual, x)
  | none, none, none, none, some x => some (.comfort, x)
  | none, none, none, none, none => none

/-- R22: the effective target and class; DEFAULT with target 0 when no record is present. -/
def Records.effective (r : Records) : Target × DemandClass :=
  match r.top with
  | some (c, x) => (x.target, c)
  | none => (.pos 0, .default)

/-- The effective demand of a vent (R22). -/
def State.effective (s : State) (v : VentId) : Target × DemandClass := s.demand[v].effective

/-! ### BRIGADE arrivals (R25 to R28) -/

/-- The actions of an OVERRIDE (R26). -/
inductive Action where
  | open | close | hold | release
  deriving DecidableEq, Repr

/-- R25: the target an arrival writes; none for RELEASE. -/
def Action.target : Action → Option Target
  | .open => some (.pos 1000)
  | .close => some (.pos 0)
  | .hold => some .hold
  | .release => none

/-- R27: OPEN and CLOSE release a lock. -/
def Action.unlocks : Action → Bool
  | .open | .close => true
  | .hold | .release => false

/-- R12, R27, R59: the lock of a LOCKED vent is released: IDLE, fault NONE, retries 0. -/
def Vent.unlock (x : Vent) : Vent :=
  if x.state = .locked then { x with state := .idle, fault := .none, retries := 0 } else x

/-- R25, R27: one arrival for one vent. An arrival for an unused vent is not taken (R21). -/
def brigadeArrival (a : Action) (o : Origin) (s : State) (v : VentId) : State :=
  if s.used v then
    let s := s.updRecords v fun r =>
      { r with brigade := a.target.map fun t => { target := t, origin := o, expiry := none } }
    if a.unlocks then s.updVent v Vent.unlock else s
  else s

/-- R26: the scope names the vent. -/
def scopeNames (s : State) (scope : Scope) (v : VentId) : Bool :=
  match scope with
  | .all => true
  | .zone z => (s.cfg v).home == z
  | .station n => n == s.image.node
  | .vent n w => n == s.image.node && w == v.val

/-- R26: an OVERRIDE applies its action to each used vent its scope names, in one event. -/
def applyOverride (a : Action) (scope : Scope) (s : State) : State :=
  forEight (fun s v => if scopeNames s scope v then brigadeArrival a .panel s v else s) s

/-- The key positions (R28). -/
inductive KeyPos where
  | neutral | open | close | fault
  deriving DecidableEq, Repr

/-- R28: a key function is asserted while either of its terminals is. -/
def State.keyAsserted (s : State) (f : TermFn) : Bool := six.any fun t => s.fn t == f && s.terms[t].debounced

/-- R28: the key position of the two debounced levels. -/
def State.keyPos (s : State) : KeyPos :=
  match s.keyAsserted .keyOpen, s.keyAsserted .keyClose with
  | false, false => .neutral
  | true, false => .open
  | false, true => .close
  | true, true => .fault

/-- R28: the BRIGADE record of KEY origin is removed; a PANEL record stays. -/
def removeKeyRecord (s : State) (v : VentId) : State :=
  s.updRecords v fun r =>
    match r.brigade with
    | some x => if x.origin = .key then { r with brigade := none } else r
    | none => r

/-- R28: a new key position acts on every used vent. -/
def applyKey (k : KeyPos) (s : State) : State :=
  match k with
  | .open => forEight (brigadeArrival .open .key) s
  | .close => forEight (brigadeArrival .close .key) s
  | .neutral | .fault => forEight removeKeyRecord s

/-! ### MANUAL and COMFORT records (R30, R31, R34) -/

/-- R30: the record a press writes; with a hold time of 0 it has no expiry. -/
def manualRecord (s : State) (target : Nat) (t : TermId) : Record where
  target := .pos target
  origin := .terminal t
  expiry := if s.image.manualHold = 0 then none else some (s.now + Config.minute s.image.manualHold)

/-- R31: the record a COMFORT frame writes, its target and hold time clamped. -/
def comfortRecord (s : State) (target hold : Nat) : Record where
  target := .pos (clamp 0 1000 target)
  origin := .gateway
  expiry := some (s.now + Config.minute (clamp 1 255 hold))

/-- R30: a MANUAL press writes a record on each used, comfort-eligible vent of the mask. -/
def writeManual (mask : VentSet) (target : Nat) (t : TermId) (s : State) : State :=
  forEight (fun s v =>
    if s.used v && (s.cfg v).comfort && memberOf v mask then
      s.updRecords v fun r => { r with manual := some (manualRecord s target t) }
    else s) s

/-- R30: a press, refused in BATTERY (R34). While any MANUAL_CLOSE terminal is asserted MANUAL_OPEN writes 0. -/
def manualPress (opening : Bool) (mask : VentSet) (t : TermId) (s : State) : State :=
  if s.mains.battery then s
  else
    let closing := six.any fun u =>
      match s.fn u with
      | .manualClose _ => s.terms[u].debounced
      | _ => false
    writeManual mask (if opening && !closing then 1000 else 0) t s

/-- R31: a COMFORT frame clamps its target and hold time and, in NORMAL, writes its records. -/
def applyComfort (zones : ZoneSet) (target hold : Nat) (s : State) : State :=
  if s.mains.battery then s
  else
    forEight (fun s v =>
      if s.used v && (s.cfg v).comfort && memberOf (s.cfg v).home zones then
        s.updRecords v fun r => { r with comfort := some (comfortRecord s target hold) }
      else s) s

/-- R34: the passage into BATTERY removes every MANUAL and COMFORT record. -/
def removeComfortDemands (s : State) : State :=
  forEight (fun s v => s.updRecords v fun r => { r with manual := none, comfort := none }) s

/-- The MANUAL or COMFORT record of a vent (R32). -/
def Records.timed (r : Records) (c : TimedClass) : Option Record :=
  match c with
  | .manual => r.manual
  | .comfort => r.comfort

/-- R32: the record is removed. -/
def Records.expire (r : Records) (c : TimedClass) : Records :=
  match c with
  | .manual => { r with manual := none }
  | .comfort => { r with comfort := none }

/-! ### FIRE records (R16, section 1.7) -/

/-- A mask and the alarmed-zone set share a zone. -/
def meets (a b : ZoneSet) : Bool := decide (a &&& b ≠ 0)

/-- The fire pattern's target for a vent (section 1.7). -/
def State.patternTarget (s : State) (v : VentId) : Nat :=
  match (s.cfg v).role with
  | .none => 0
  | .primary => if memberOf (s.cfg v).home s.fire.zones && !s.windward[v].flag then 1000 else 0
  | .reserve =>
    match s.leadZone with
    | some z => if memberOf z (s.cfg v).mask && memberOf v s.area.calledSet && !s.windward[v].flag then 1000 else 0
    | none => 0
  | .inlet => if meets (s.cfg v).mask s.fire.zones then 1000 else 0

/-- R16: the FIRE record a vent carries: while fire mode holds, one on every used vent. -/
def State.patternRecord (s : State) (v : VentId) : Option Record :=
  if s.fireMode && s.used v then some { target := .pos (s.patternTarget v), origin := .firePattern, expiry := none }
  else none

/-- R16, R35: every FIRE record is written from the pattern, or removed outside fire mode. -/
def writePattern (s : State) : State :=
  s.withDemand (Vector.ofFn fun v : Fin 8 => { s.demand[v] with fire := s.patternRecord v })

/-! ### WEATHER records (R29, R121) -/

/-- R29: the vent carries a WEATHER record. -/
def State.weatherCloses (s : State) (v : VentId) : Bool :=
  s.used v &&
    (((s.cfg v).rainClose && s.weather.effRain) || ((s.cfg v).stormClose && s.weather.effWind == .known .storm))

/-- R29, R121: the WEATHER records follow the effective rain and wind state. -/
def writeWeatherRecords (s : State) : State :=
  s.withDemand (Vector.ofFn fun v : Fin 8 => { s.demand[v] with
    weather := if s.weatherCloses v then some { target := .pos 0, origin := .weather, expiry := none } else none })

end Sys2Proof.Machine
end

