-- ==== Sys2Proof/Machine/Drive.lean ====
section
/-! DEFINITION. The Drive Unit (chapter 3): when a vent needs to move, its states, the position of its channels, the
verdicts of its current filters. -/

namespace Sys2Proof.Machine

/-! ### Needing to move (R39) -/

/-- R39: re-anchoring is due for an intermediate target. -/
def State.reanchorDue (s : State) (v : VentId) : Bool :=
  !s.allKnown v || !s.agree v ||
    (s.vents[v].stops == Config.stopLimit && decide (classRank s.vents[v].cls < classRank .fire))

/-- R39: some channel is UNKNOWN or not at p. -/
def State.awayFrom (s : State) (v : VentId) (p : Nat) : Bool :=
  (s.channels v).any fun c => s.chanPos v c != some p

/-- R39: the direction and kind of the run a vent wants toward its effective target, or none when it does not need to
move. -/
def State.wants (s : State) (v : VentId) : Option (Dir × RunKind) :=
  match s.vents[v].target with
  | .hold => none
  | .pos p =>
    if p = 0 then if s.awayFrom v 0 then some (.closing, .toEnd) else none
    else if 1000 ≤ p then if s.awayFrom v 1000 then some (.opening, .toEnd) else none
    else if s.reanchorDue v then some (if p ≤ 500 then .closing else .opening, .anchoring)
    else
      match s.ventPos v with
      | none => none
      | some q => if q = p then none else some (if q < p then .opening else .closing, .toStop)

/-! ### States at rest and in waiting (R40, R41, R57) -/

/-- The vent enters IDLE. -/
def toIdle (v : VentId) (s : State) : State :=
  s.updVent v fun x => { x with state := .idle, runKind := none, stopTime := none, dwellEnds := none, coolEnds := none }

/-- R40, R68: the vent enters WAIT_SUPPLY; its join time is the moment of joining. -/
def toWait (v : VentId) (k : RunKind) (s : State) : State :=
  s.updVent v fun x => { x with
    state := .waitSupply, runKind := some k, stopTime := none, joinTime := s.now, dwellEnds := none, coolEnds := none }

/-- R57: the vent enters DWELL for 300 ms. -/
def toDwell (v : VentId) (s : State) : State :=
  s.updVent v fun x => { x with
    state := .dwell, runKind := none, stopTime := none, dwellEnds := some (s.now + Config.dwell), coolEnds := none }

/-- A move in direction d is permitted without a dwell: the last direction is none or d (R40). -/
def Vent.permits (x : Vent) (d : Dir) : Bool := x.lastDir == none || x.lastDir == some d

/-- R40: a vent at rest is evaluated. -/
def evaluate (v : VentId) (s : State) : State :=
  match s.wants v with
  | none => toIdle v s
  | some (d, k) => if s.vents[v].permits d then toWait v k s else toDwell v s

/-- R41: a vent in WAIT_SUPPLY is evaluated; it keeps its join time while it stays. -/
def evaluateWaiting (v : VentId) (s : State) : State :=
  match s.wants v with
  | none => toIdle v s
  | some (d, k) =>
    if s.vents[v].permits d then s.updVent v fun x => { x with state := .waitSupply, runKind := some k }
    else toDwell v s

/-! ### Runs (R43 to R47) -/

/-- R45: the stop time of a run to P from p0 begun at `start`: the run time in milliseconds is
ceil(|P − p0| × T × 100 / 1000). -/
def stopTimeOf (c : VentCfg) (d : Dir) (start : Micros) (p0 p : Nat) : Micros :=
  let gap := if p0 ≤ p then p - p0 else p0 - p
  start + Config.ms (ceilDiv (gap * c.travel d * 100) 1000)

/-- The stop time of a vent's run: present for a run to a stop, counted from the common run start position (R45). -/
def State.runStop (s : State) (v : VentId) (d : Dir) (k : RunKind) (start : Micros) (p0 : Position) : Option Micros :=
  match k, p0, s.vents[v].target with
  | .toStop, some p, .pos q => some (stopTimeOf (s.cfg v) d start p q)
  | _, _, _ => none

/-- R43: one channel is driven from its estimate; its start window and its inrush window (R76) start. The reading counts
as below idle until one is taken (log entry 10). -/
def driveChannel (d : Dir) (s : State) (c : ChanId) : State :=
  s.updChan c fun x => { x with
    startPos := x.estimate, driven := some d, reading := 0, window := some (s.now + Config.startWindow), drew := false,
    endFilter := none, stallFilter := none, inrush := some (s.now + Config.ms s.image.inrushMs) }

/-- R43: a run begins. What a commit check gave before it is past (log entry 35). -/
def beginRun (v : VentId) (d : Dir) (k : RunKind) (s : State) : State :=
  let stop := s.runStop v d k s.now (s.ventPos v)
  let s := s.updVent v fun x => { x with
    state := d.runState, runKind := some k, runStart := s.now, stopTime := stop, lastDir := some d,
    committed := none }
  forChannels v (driveChannel d) s

/-- A channel stops being driven, with the estimate given; its filters and its inrush window are discarded (R67, R79). -/
def Channel.stop (x : Channel) (p : Position) : Channel :=
  { x with estimate := p, driven := none, reading := 0, window := none, drew := false, endFilter := none,
           stallFilter := none, inrush := none }

/-- Every channel of the vent still driven stops, each with the estimate f gives it. -/
def stopDriven (v : VentId) (f : ChanId → Position) (s : State) : State :=
  forChannels v (fun s c => if s.chans[c].driven.isSome then s.updChan c fun x => x.stop (f c) else s) s

/-- Every channel still driven stops with the estimate R44 gives. -/
def stopInPlace (v : VentId) (s : State) : State := stopDriven v (s.chanPos v) s

/-- The intermediate-stop count rises by one (R38: saturating). -/
def countStop (v : VentId) (s : State) : State := s.updVent v fun x => { x with stops := saturate Config.stopLimit x.stops }

/-- R45, R55: the run ends at P: every channel still driven stops at exactly P, the count rises, the retries become 0,
and the vent enters IDLE and is evaluated. -/
def stopAt (v : VentId) (p : Nat) (s : State) : State :=
  let s := countStop v (stopDriven v (fun _ => some p) s)
  evaluate v (toIdle v (s.updVent v fun x => { x with retries := 0 }))

/-- R46: a channel is anchored at the end its run goes to. When no channel of the vent is driven any more the run ends:
counts 0, IDLE, evaluated. -/
def anchor (v : VentId) (c : ChanId) (d : Dir) (s : State) : State :=
  let s := s.updChan c fun x => x.stop (some d.endPos)
  if s.anyDriven v then s
  else evaluate v (toIdle v (s.updVent v fun x => { x with stops := 0, retries := 0 }))

/-- R59: the vent enters LOCKED with the fault kind given. -/
def toLocked (v : VentId) (k : FaultKind) (s : State) : State :=
  s.updVent v fun x => { x with
    state := .locked, fault := k, runKind := none, stopTime := none, dwellEnds := none, coolEnds := none }

/-- R48: the open-circuit verdict on channel c: all channels stop, c's estimate returns to its run start position. R48 and
R53 name no pair of start windows that both close without current: the first verdict taken decides, and the partner, no
longer driven, keeps its arithmetic estimate and gets no verdict of its own (log entry 41). -/
def openCircuit (v : VentId) (c : ChanId) (s : State) : State :=
  let p := s.chans[c].startPos
  let q := s.chanPos v
  toLocked v .openCircuit (stopDriven v (fun e => if e = c then p else q e) s)

/-- R50: the vent has stalled. -/
def stall (v : VentId) (s : State) : State :=
  let s := countStop v (stopInPlace v s)
  if s.vents[v].retries < Config.stallRetries then
    s.updVent v fun x => { x with
      state := .stalled, retries := x.retries + 1, runKind := none, stopTime := none,
      coolEnds := some (s.now + Config.coolDown) }
  else toLocked v .stallLimit s

/-- R51: a channel of the vent is shorted. -/
def short (v : VentId) (s : State) : State := toLocked v .short (countStop v (stopInPlace v s))

/-- R52: the instant of the run limit, T × 150 + 2000 ms from the run start time. -/
def State.runLimit (s : State) (v : VentId) (d : Dir) : Micros :=
  s.vents[v].runStart + Config.ms ((s.cfg v).travel d * 150 + 2000)

/-- R52: the limit is reached: the channels still driven stop UNKNOWN. -/
def runTimeout (v : VentId) (s : State) : State := toLocked v .runTimeout (stopDriven v (fun _ => none) s)

/-- R48: the verdict of a start window that closed without idle being reached. -/
inductive WindowVerdict where
  | anchored | openCircuit
  deriving DecidableEq, Repr

/-- R48: the judgement by the run start position and the direction. -/
def windowVerdict (p0 : Position) (d : Dir) : WindowVerdict :=
  match p0, d with
  | none, _ => .anchored
  | some p, .opening => if 950 ≤ p then .anchored else .openCircuit
  | some p, .closing => if p ≤ 50 then .anchored else .openCircuit

/-- The filters that run for a reading once the start window has closed (R49, R50). -/
def Channel.filters (x : Channel) (stallMilliamps : Nat) (now : Micros) : Channel :=
  { x with
    endFilter :=
      if x.reading < Config.idleMilliamps then
        (match x.endFilter with
          | some t => some t
          | none => some (now + Config.endFilter))
      else none
    stallFilter :=
      if stallMilliamps ≤ x.reading then
        (match x.stallFilter with
          | some t => some t
          | none => some (now + Config.stallFilter))
      else none }

/-- R50: the stall threshold of a vent in mA. -/
def VentCfg.stallMilliamps (c : VentCfg) : Nat := c.stall * 100

/-- R48, R49: the start window of a driven channel ends: a verdict when the reading stayed below idle throughout, else
the filters start from the reading as it stands. -/
def endWindow (v : VentId) (c : ChanId) (d : Dir) (s : State) : State :=
  if s.chans[c].drew then
    s.updChan c fun x => ({ x with window := none }).filters (s.cfg v).stallMilliamps s.now
  else
    match windowVerdict s.chans[c].startPos d with
    | .anchored => anchor v c d s
    | .openCircuit => openCircuit v c s

/-- R48 to R50: a reading of a driven channel: within the start window it can rule out the window's verdict, after it
the filters start, run on or stop. A reading at the short threshold is a short at any moment (R51; log entry 22). -/
def takeReading (v : VentId) (c : ChanId) (milliamps : Nat) (s : State) : State :=
  if Config.shortMilliamps ≤ milliamps then short v s
  else
    s.updChan c fun x =>
      let x := { x with reading := milliamps }
      match x.window with
      | some _ => if Config.idleMilliamps ≤ milliamps then { x with drew := true } else x
      | none => x.filters (s.cfg v).stallMilliamps s.now

/-! ### A new effective demand (R40 to R42, R54 to R60) -/

/-- R45: the run start position of the channels still driven. -/
def State.runStartPos (s : State) (v : VentId) : Position :=
  match (s.channels v).find? fun c => s.chans[c].driven.isSome with
  | some c => s.chans[c].startPos
  | none => none

/-- The position q lies short of p in direction d: p is ahead (R55). -/
def ahead (d : Dir) (q p : Nat) : Bool :=
  match d with
  | .opening => decide (q < p)
  | .closing => decide (p < q)

/-- R55, R56: a run to a stop, or a run to an end with re-anchoring not due, meets an intermediate target p: at the
estimate it stops there, ahead it becomes a run to a stop toward p, behind it stops and dwells. With an UNKNOWN position
it goes on as an anchoring run (R56). -/
def retarget (v : VentId) (d : Dir) (p : Nat) (s : State) : State :=
  match s.ventPos v with
  | none => s.updVent v fun x => { x with runKind := some .anchoring, stopTime := none }
  | some q =>
    if q = p then stopAt v p s
    else if ahead d q p then
      let stop := s.runStop v d .toStop s.vents[v].runStart (s.runStartPos v)
      s.updVent v fun x => { x with runKind := some .toStop, stopTime := stop }
    else toDwell v (countStop v (stopInPlace v s))

/-- R55, R56: an intermediate target for a running vent, by the kind of its run (log entries 12 and 13). -/
def meetIntermediate (v : VentId) (d : Dir) (p : Nat) (s : State) : State :=
  match s.vents[v].runKind with
  | some .anchoring => s
  | some .toEnd =>
    if s.reanchorDue v then s.updVent v fun x => { x with runKind := some .anchoring } else retarget v d p s
  | some .toStop | none => retarget v d p s

/-- R83: the run that a commit check has begun at this very moment, by the direction of the last run before it (log
entry 35). -/
def State.justCommitted (s : State) (v : VentId) : Option (Option Dir) :=
  if s.vents[v].runStart = s.now then s.vents[v].committed else none

/-- R42, R83: the start is reported not taken: no run has been, nothing is counted, the direction of the last run is what
it was, and the vent is IDLE. -/
def withdrawStart (v : VentId) (old : Option Dir) (s : State) : State :=
  evaluate v (toIdle v ((stopInPlace v s).updVent v fun x => { x with lastDir := old }))

/-- R54: HOLD stops a running vent. R83: the start that the announcing DRAW's completion gave at this moment is not
taken. -/
def meetHold (v : VentId) (s : State) : State :=
  match s.justCommitted v with
  | some old => withdrawStart v old s
  | none => evaluate v (toIdle v (countStop v (stopInPlace v s)))

/-- R54 to R56: a new target for a vent running in direction d. -/
def meetTarget (v : VentId) (d : Dir) (t : Target) (s : State) : State :=
  match t with
  | .hold => meetHold v s
  | .pos p =>
    if p = 0 ∨ 1000 ≤ p then
      if p = d.endPos ∨ (1000 ≤ p ∧ d = .opening) then s.updVent v fun x => { x with runKind := some .toEnd, stopTime := none }
      else toDwell v (countStop v (stopInPlace v s))
    else meetIntermediate v d p s

/-- R77: the start in progress ends; the announcement mark is cleared with it (R73). -/
def endStart (s : State) : State := s.updSupply fun x => { x with start := none, mark := none }

/-- The Drive Unit receives a new effective target and class (R24) and acts on it by the vent's state. Outside RUN it
records them (R60). -/
def takeDemand (v : VentId) (t : Target) (c : DemandClass) (s : State) : State :=
  let old := s.vents[v].target
  let s := s.updVent v fun x => { x with target := t, cls := c }
  if s.inRun then
    match s.vents[v].state with
    | .idle => evaluate v s
    | .waitSupply => evaluateWaiting v s
    | .announced => if t = .hold then endStart (toIdle v s) else s
    | .runOpen => if t = old then s else meetTarget v .opening t s
    | .runClose => if t = old then s else meetTarget v .closing t s
    | .dwell | .locked => s
    | .stalled =>
      if t = .hold then toIdle v s
      else
        match s.wants v with
        | some (d, _) => if s.vents[v].permits d then s else toDwell v s
        | none => s
  else s

/-- R24: the arbiter hands a vent's effective demand to the Drive Unit. -/
def handOnVent (v : VentId) (s : State) : State := takeDemand v (s.effective v).1 (s.effective v).2 s

/-- What the Drive Unit holds of a vent's effective demand (R24). -/
def State.held (s : State) (v : VentId) : Target × DemandClass := (s.vents[v].target, s.vents[v].cls)

/-- R24: each vent of `who` whose effective target or class differs between the two states, or that was handed another one
in between, and whose Drive Unit does not hold it yet, is handed it. -/
def handOn (who : VentId → Bool) (before s : State) : State :=
  forEight (fun s v =>
    if who v && s.used v && (before.effective v != s.effective v || before.held v != s.held v) &&
        s.held v != s.effective v then
      handOnVent v s
    else s) s

/-- R12, R27, R59: a vent of `who` whose lock was released is evaluated with its effective target of that moment. -/
def evaluateReleased (who : VentId → Bool) (before s : State) : State :=
  forEight (fun s v =>
    if who v && decide (before.vents[v].state = .locked) && decide (s.vents[v].state = .idle) then evaluate v s else s) s

/-- R24, R36, R59: the Drive Unit takes, for the vents of `who`, what the event leaves as their effective demands, and
the released ones among them are evaluated with it. -/
def settleDemands (who : VentId → Bool) (before s : State) : State :=
  evaluateReleased who before (handOn who before s)

/-- Every vent of the station. -/
def everyVent : VentId → Bool := fun _ => true

/-! ### Retention memory (R61 to R63) -/

/-- R61: as a vent enters IDLE its channels' entries take their estimates, as it leaves IDLE they become UNKNOWN. -/
def writeRetention (before : State) (s : State) : State :=
  forEight (fun s v =>
    if s.vents[v].state = before.vents[v].state then s
    else
      forChannels v (fun s c =>
        s.withRetention (s.retention.set c
          (if s.vents[v].state = .idle then s.chans[c].estimate else none))) s) s

/-- R62, R63: the Drive Unit when the image has loaded: each channel of a used vent takes its retained entry, a vent
given a known estimate has an intermediate-stop count of 8, and entries of channels no used vent names become
UNKNOWN. A tandem vent counts as given one when either of its channels is (log entry 34). -/
def loadRetention (s : State) : State :=
  let owned := fun c : ChanId => (s.owner c).isSome
  let s := s.withChans (Vector.ofFn fun c : Fin 8 =>
    { Channel.reset with estimate := if owned c then s.retention[c] else none })
  let s := s.withVents (Vector.ofFn fun v : Fin 8 =>
    { Vent.reset with
      stops := if (s.channels v).any fun c => s.chans[c].estimate.isSome then Config.stopLimit else 0 })
  s.withRetention (Vector.ofFn fun c : Fin 8 => if owned c then s.retention[c] else none)

end Sys2Proof.Machine
end

