-- ==== Sys2Proof/Machine/Scheduler.lean ====
section
/-! DEFINITION. The Supply Scheduler (chapter 4): the draw figures, the waiting set, the pre-check, the commit check and
what becomes of a start in progress. -/

namespace Sys2Proof.Machine

/-! ### The station's own draw (R67) -/

/-- R67: the start current of a vent's channel. -/
def VentCfg.startCurrent (c : VentCfg) : Nat := max c.inrush c.running

/-- R67: I, the start draw of a vent. -/
def State.startDraw (s : State) (v : VentId) : Nat := (s.cfg v).startCurrent * (s.channels v).length

/-- A figure summed over the driven channels of the used vents. -/
def State.sumDriven (s : State) (f : VentCfg → Channel → Nat) : Nat :=
  sumOver fun v => ((s.channels v).map fun c => if s.chans[c].driven.isSome then f (s.cfg v) s.chans[c] else 0).sum

/-- R67: own inrush draw. -/
def State.ownInrush (s : State) : Nat := s.sumDriven fun k x => if x.inrush.isSome then k.startCurrent else 0

/-- R67: own running draw. -/
def State.ownRunning (s : State) : Nat := s.sumDriven fun k x => if x.inrush.isSome then 0 else k.running

/-- R67: the running channel count. -/
def State.runningCount (s : State) : Nat := s.sumDriven fun _ _ => 1

/-! ### Peers in the budget (R72) -/

/-- R72: what one entry counts: its running draw, and its inrush draw while the expiry is present and has not passed. -/
def Peer.draw (p : Peer) (now : Micros) : Nat :=
  p.running +
    match p.inrushEnds with
    | some t => if now < t then p.inrush else 0
    | none => 0

/-- R72: the peer draw, over every entry. -/
def State.peerDraw (s : State) : Nat :=
  (s.peers.toList.map fun p =>
    match p with
    | some p => p.draw s.now
    | none => 0).sum

/-! ### The waiting set (R68, R69) -/

/-- The vent is a member of the waiting set. -/
def State.waits (s : State) (v : VentId) : Bool := s.used v && s.vents[v].state == .waitSupply

/-- R68: the vent is startable. -/
def State.startable (s : State) (v : VentId) : Bool :=
  decide (s.startDraw v ≤ s.image.feedLimit) && decide ((s.channels v).length ≤ s.image.maxMotors)

/-- R68: a ranks before b: the higher move class, then the earlier join time, then the lower index. -/
def State.ranksBefore (s : State) (a b : VentId) : Bool :=
  let ra := classRank s.vents[a].cls
  let rb := classRank s.vents[b].cls
  decide (rb < ra) || (ra == rb &&
    (decide (s.vents[a].joinTime < s.vents[b].joinTime) ||
      (s.vents[a].joinTime == s.vents[b].joinTime && decide (a < b))))

/-- R68: the head, the highest-ranked startable member of the waiting set. -/
def State.head (s : State) : Option VentId :=
  (eight.filter fun v => s.waits v && s.startable v).foldl
    (fun best v =>
      match best with
      | none => some v
      | some b => if s.ranksBefore v b then some v else some b) none

/-- R69: the pending class, the highest move class among the startable members. -/
def State.pendingClass (s : State) : Option DemandClass := s.head.map fun v => s.vents[v].cls

/-- R74: the current content of a DRAW. -/
def State.drawContent (s : State) : DrawContent where
  running := s.ownRunning
  inrush := s.ownInrush +
    match s.supply.start with
    | some x => s.startDraw x.vent
    | none => 0
  pending := s.pendingClass

/-! ### The checks (R71, R75, R80) -/

/-- R71, R75: the budget condition for a vent. -/
def State.budgetHolds (s : State) (v : VentId) : Bool :=
  decide (s.ownRunning + s.ownInrush + s.peerDraw + s.startDraw v ≤ s.image.feedLimit)

/-- R71: no FRESH peer has a pending class of higher rank than the vent's move class. -/
def State.precedenceHolds (s : State) (v : VentId) : Bool :=
  s.peers.toList.all fun p =>
    match p with
    | some p => !p.fresh || decide (pendingRank p.pending ≤ pendingRank (some s.vents[v].cls))
    | none => true

/-- R71: the three conditions of the pre-check. -/
def State.preCheck (s : State) (v : VentId) : Bool :=
  s.budgetHolds v && decide (s.runningCount + (s.channels v).length ≤ s.image.maxMotors) && s.precedenceHolds v

/-- The line state is LINE_MUTE or LINE_LOST. -/
def State.lineDown (s : State) : Bool := s.line.state == .mute || s.line.state == .lost

/-- R80: no channel of the station is within its inrush window. -/
def State.noInrush (s : State) : Bool :=
  eight.all fun v => (s.channels v).all fun c => s.chans[c].driven.isNone || s.chans[c].inrush.isNone

/-- R80: the degraded pre-check adds the fourth condition. -/
def State.degradedCheck (s : State) (v : VentId) : Bool := s.preCheck v && s.noInrush

/-! ### What becomes of a start (R42, R75 to R78, R80) -/

/-- R42, R76, R77: the start of a vent is given: its run begins, or it is not taken because the vent no longer needs to
move or must first dwell. The start in progress, if any, ends. -/
def giveStart (v : VentId) (s : State) : State :=
  let s := endStart s
  match s.wants v with
  | none => toIdle v s
  | some (d, k) => if s.vents[v].permits d then beginRun v d k s else toDwell v s

/-- R42, R68, R78: the vent returns to WAIT_SUPPLY with its join time and is evaluated there; the start ends. -/
def returnStart (v : VentId) (s : State) : State :=
  evaluateWaiting v ((endStart s).updVent v fun x => { x with state := .waitSupply })

/-- R83: a run that a commit check begins keeps the direction of the last run before it, for a HOLD that meets the
completion (log entry 35). -/
def noteCommit (v : VentId) (old : Option Dir) (s : State) : State :=
  s.updVent v fun x => if x.state.running then { x with committed := some old } else x

/-- R75: the commit check of the start in progress. -/
def commit (v : VentId) (s : State) : State :=
  if s.budgetHolds v then noteCommit v s.vents[v].lastDir (giveStart v s) else returnStart v s

/-- R80: the line has gone down with a start in progress: the degraded pre-check is made at once. The vent's class in it is
the effective class as last recorded (R42; log entry 42). -/
def degradeStart (s : State) : State :=
  match s.supply.start with
  | none => s
  | some x => if s.degradedCheck x.vent then giveStart x.vent s else returnStart x.vent s

/-- R73: the head becomes the start in progress. -/
def announce (v : VentId) (s : State) : State :=
  (s.updSupply fun x => { x with start := some { vent := v, id := x.nextId }, nextId := x.nextId + 1 }).updVent v
    fun x => { x with state := .announced }

/-- R70, R71, R73, R80: the head is pre-checked; in LINE_OK it is announced, with the line down it starts at once. A
start reported not taken ends a start, so the next head is checked, at most `n` in all. -/
def serve : Nat → State → State
  | 0, s => s
  | n + 1, s =>
    if s.inRun && s.supply.start.isNone then
      match s.head with
      | none => s
      | some v =>
        if s.lineDown then
          if s.degradedCheck v then serve n (giveStart v s) else s
        else if s.line.state == .ok && s.preCheck v then announce v s
        else s
    else s

/-! ### The events that cause a pre-check (R70) -/

/-- R70: the waiting set or a move class differs. -/
def waitingChanged (before after : State) : Bool :=
  eight.any fun v =>
    before.waits v != after.waits v ||
      (after.waits v && (before.vents[v].cls != after.vents[v].cls || before.vents[v].joinTime != after.vents[v].joinTime))

/-- R70: the start in progress has ended. -/
def startEnded (before after : State) : Bool := before.supply.start.isSome && before.supply.start != after.supply.start

/-- R70: an own channel stopped being driven, or its inrush window ended. -/
def channelFreed (before after : State) : Bool :=
  eight.any fun c =>
    (before.chans[c].driven.isSome && after.chans[c].driven.isNone) ||
      (before.chans[c].inrush.isSome && after.chans[c].inrush.isNone)

/-- R70, R167: what the scheduler is told of an entry: its freshness, draws and pending class, and whether an inrush
expiry is present, whose passing is an event of its own. -/
def Peer.supplyView (p : Peer) : Bool × Nat × Nat × Bool × Option DemandClass :=
  (p.fresh, p.running, p.inrush, p.inrushEnds.isSome, p.pending)

/-- R70, R167: an entry was created, evicted, or changed in what the scheduler reads. -/
def peersChanged (before after : State) : Bool :=
  (before.peers.toList.map fun p => p.map Peer.supplyView) != (after.peers.toList.map fun p => p.map Peer.supplyView)

end Sys2Proof.Machine
end

