-- ==== Sys2Proof/Machine/Queue.lean ====
section
/-! DEFINITION. The transmit queue of the Line Controller (section 8.6): order, offers, eviction, emptying. -/

namespace Sys2Proof.Machine

/-- R155, R179: the class of a frame: FIRE 0, SUPPLY 1, ROUTINE 2. -/
def Frame.cls : Frame → Nat
  | .alarm _ _ | .reset _ => 0
  | .draw _ => 1
  | .status _ | .area _ | .weather _ => 2

/-- R179: the kind code of a frame. -/
def Frame.kind : Frame → Nat
  | .alarm _ _ => 0
  | .reset _ => 1
  | .draw _ => 3
  | .status _ => 4
  | .area _ => 5
  | .weather _ => 6

/-- R148: the subject: the zone of ALARM and AREA, nothing for every other kind. -/
def Frame.subject : Frame → Option Zone
  | .alarm z _ => some z
  | .area c => some c.zone
  | .reset _ | .draw _ | .status _ | .weather _ => none

/-- R148: two frames of the same kind and subject. -/
def Frame.sameAs (a b : Frame) : Bool := a.kind == b.kind && a.subject == b.subject

/-- The zone of a subject as an ordering number. -/
def subjectOrder (z : Option Zone) : Nat :=
  match z with
  | none => 0
  | some z => z.val

/-- R148: a stands before b: by class, then by the event that took it, then by kind code and zone. -/
def Queued.before (a b : Queued) : Bool :=
  decide (a.frame.cls < b.frame.cls) || (a.frame.cls == b.frame.cls &&
    (decide (a.stamp < b.stamp) || (a.stamp == b.stamp &&
      (decide (a.frame.kind < b.frame.kind) || (a.frame.kind == b.frame.kind &&
        decide (subjectOrder a.frame.subject < subjectOrder b.frame.subject))))))

/-- R148: a frame is placed before the first waiting frame it stands before. -/
def place (q : Queued) : List Queued → List Queued
  | [] => [q]
  | x :: xs => if q.before x then q :: x :: xs else x :: place q xs

/-- R157: the frame is placed first among its class. -/
def placeFirst (q : Queued) (l : List Queued) : List Queued :=
  let ahead := fun x : Queued => decide (x.frame.cls < q.frame.cls)
  l.takeWhile ahead ++ q :: l.dropWhile ahead

/-- R157: the frame in transmission has been dropped: a waiting frame of its kind and subject takes over its time and
stands first among its class (log entry 40). -/
def succeed (dropped : Queued) (l : List Queued) : List Queued :=
  match l.find? fun x => x.frame.sameAs dropped.frame with
  | some x => placeFirst { x with stamp := dropped.stamp } (l.erase x)
  | none => l

/-- R149: a frame replaces the waiting frame of its kind and subject in its place, taking over its time. -/
def replaceIn (f : Frame) (ann : Option Nat) : List Queued → List Queued
  | [] => []
  | x :: xs => if x.frame.sameAs f then { frame := f, stamp := x.stamp, ann := ann } :: xs else x :: replaceIn f ann xs

/-- R148: the frames held, the one in transmission among them. -/
def Line.held (l : Line) : Nat := l.waiting.length + (if l.tx.isSome then 1 else 0)

/-- R149, R150: the queue takes offers in RUN with the line state LINE_OK. -/
def State.takesOffers (s : State) : Bool := s.inRun && s.line.state == .ok

/-- R78: a DRAW that carried the announcement of the start in progress has left the queue without going out: the vent
returns. Two DRAWs can carry one announcement, one in transmission and one waiting (R73, R74); that the loss of either ends the
start, though the other still stands, is the model's choice (log entry 44). -/
def drawLost (q : Queued) (s : State) : State :=
  match s.supply.start with
  | some x => if q.ann = some x.id then returnStart x.vent s else s
  | none => s

/-- What becomes of an offered frame (R149). -/
inductive Offer where
  | replaces | taken | evicts (q : Queued) | refused
  deriving DecidableEq, Repr

/-- R149: the first case that applies. The youngest waiting frame of the lowest class is the last of the waiting
frames: among frames taken in one event, the last by R148's order of kinds and zones (log entry 37). -/
def State.offerCase (s : State) (f : Frame) : Offer :=
  if !s.takesOffers then .refused
  else if s.line.waiting.any fun x => x.frame.sameAs f then .replaces
  else if s.line.held < Config.queueSize then .taken
  else
    match s.line.waiting.getLast? with
    | some q => if f.cls < q.frame.cls then .evicts q else .refused
    | none => .refused

/-- The queue takes, or does not take, an offered frame (R149); `ann` is the start whose announcement it carries. An
evicted DRAW is handled as a dropped one (R78, R149). -/
def offer (f : Frame) (ann : Option Nat) (s : State) : State :=
  match s.offerCase f with
  | .refused => s
  | .replaces => s.updLine fun l => { l with waiting := replaceIn f ann l.waiting }
  | .taken => s.updLine fun l => { l with waiting := place { frame := f, stamp := s.event, ann := ann } l.waiting }
  | .evicts q =>
    drawLost q (s.updLine fun l =>
      { l with waiting := place { frame := f, stamp := s.event, ann := ann } l.waiting.dropLast })

/-- The owner of an offered frame is told at once whether it was taken (R149). -/
def State.takes (s : State) (f : Frame) : Bool := decide (s.offerCase f ≠ .refused)

/-- R145, R146, R150: the queue is emptied; no frame is in transmission. -/
def Line.emptied (l : Line) : Line := { l with waiting := [], tx := none, sending := false, errors := 0 }

/-- What tells one frame of the queue from another: a replacing frame keeps the place of the one it replaced (R149). -/
def Queued.key (q : Queued) : Nat × Nat × Option Zone := (q.stamp, q.frame.kind, q.frame.subject)

/-- Every frame the queue holds. -/
def Line.frames (l : Line) : List Queued := l.tx.toList ++ l.waiting

/-- R70, R149: an own frame has left the queue: sent, dropped, evicted or emptied. -/
def frameLeft (before after : State) : Bool :=
  before.line.frames.any fun q => !(after.line.frames.any fun r => r.key == q.key)

/-- R70: the events that cause a pre-check of the head. -/
def preCheckDue (before after : State) : Bool :=
  waitingChanged before after || startEnded before after || channelFreed before after || peersChanged before after ||
    before.line.state != after.line.state || frameLeft before after

end Sys2Proof.Machine
end

