-- ==== Sys2Proof/Machine/Balance.lean ====
section
/-! DEFINITION. The Area Balance Unit (chapter 5): the area arithmetic, the figures, the walk, the calls. -/

namespace Sys2Proof.Machine

/-! ### The area arithmetic (R87 to R90) -/

/-- R87: the exact product A × Cd × p of one vent. -/
def VentCfg.product (c : VentCfg) (p : Nat) : Nat := c.area * c.cd * p

/-- R87: the exact sum over the vents counted, each at its position term; an UNKNOWN term counts as 0 (R88). -/
def State.areaSum (s : State) (counted : VentId → Bool) (term : VentId → Position) : Nat :=
  sumOver fun v => if counted v then (s.cfg v).product ((term v).getD 0) else 0

/-- R87: the exact sum divided once, before the limit of 65535. -/
def areaExact (sum : Nat) : Nat := roundEven sum 256000

/-- R87: the reported figure. -/
def areaReport (sum : Nat) : Nat := min 65535 (areaExact sum)

/-- R87: the figure was reduced to 65535. -/
def areaSaturates (sum : Nat) : Bool := decide (65535 < areaExact sum)

/-- R89: the planned term of a vent. -/
def State.plannedTerm (s : State) (v : VentId) : Position :=
  match s.vents[v].state with
  | .stalled | .locked => s.ventPos v
  | .idle | .waitSupply | .announced | .runOpen | .runClose | .dwell =>
    match s.vents[v].target with
    | .pos p => some p
    | .hold => s.ventPos v

/-! ### The station's own figures (R91 to R95) -/

/-- The vent is a used PRIMARY of the zone (R91, R94). -/
def State.primaryOf (s : State) (z : Zone) (v : VentId) : Bool :=
  s.used v && (s.cfg v).role == .primary && (s.cfg v).home == z

/-- R91: the vents counted in own primary planned. -/
def State.countsPrimary (s : State) (z : Zone) (v : VentId) : Bool := s.primaryOf z v && !s.windward[v].flag

/-- R92: the vent is eligible. -/
def State.eligible (s : State) (z : Zone) (v : VentId) : Bool :=
  s.used v && (s.cfg v).role == .reserve && memberOf z (s.cfg v).mask && !s.windward[v].flag &&
    s.vents[v].state != .locked && s.vents[v].state != .stalled && s.demand[v].brigade.isNone

/-- R93: the vent is called. -/
def State.isCalled (s : State) (v : VentId) : Bool := memberOf v s.area.calledSet

/-- R91: own primary planned, exact. -/
def State.primarySum (s : State) (z : Zone) : Nat := s.areaSum (s.countsPrimary z) s.plannedTerm

/-- R92: own reserve offer, exact. -/
def State.offerSum (s : State) (z : Zone) : Nat := s.areaSum (s.eligible z) fun _ => some 1000

/-- R93: own reserve called, exact. -/
def State.calledSum (s : State) : Nat := s.areaSum s.isCalled s.plannedTerm

/-- R94: own achieved, exact. -/
def State.achievedSum (s : State) (z : Zone) : Nat := s.areaSum (fun v => s.primaryOf z v || s.isCalled v) s.ventPos

/-- R95: some vent counted in the planned, called or achieved figure had an UNKNOWN term. -/
def State.unknownTerm (s : State) (z : Zone) : Bool :=
  eight.any fun v =>
    ((s.countsPrimary z v || s.isCalled v) && (s.plannedTerm v).isNone) ||
      ((s.primaryOf z v || s.isCalled v) && (s.ventPos v).isNone)

/-! ### The deficit and the walk (R96 to R98) -/

/-- R96: the area record that a peer entry contributes for the balance zone. -/
def Peer.counted (p : Peer) (z : Zone) : Option PeerArea :=
  if p.fresh then
    match p.area with
    | some a => if a.zone = z then some a else none
    | none => none
  else none

/-- One station of the walk: its node number, primary planned and reserve offer. -/
structure Share where
  node    : Nat
  primary : Nat
  offer   : Nat
  deriving DecidableEq, Repr

/-- R96, R97: the stations of the walk in ascending node number, the own station among them. A peer entry of the own
node, which R158 excludes, would not be counted. -/
def State.shares (s : State) (z : Zone) (primary offer : Nat) : List Share :=
  (List.finRange 30).filterMap fun n =>
    if n.val = s.image.node then some { node := n.val, primary := primary, offer := offer }
    else
      match s.peers[n] with
      | some p => (p.counted z).map fun a => { node := n.val, primary := a.primary, offer := a.offer }
      | none => none

/-- R97: the deficit R − P, 0 when P reaches R. -/
def deficit (required : Nat) (l : List Share) : Nat := required - (l.map Share.primary).sum

/-- R97: the walk from a remaining deficit: each station's take is the smaller of its offer and what remains. It gives
the take of the node asked for and what remains after the last station. -/
def walk (own : Nat) : Nat → List Share → Nat × Nat
  | rem, [] => (0, rem)
  | rem, x :: xs =>
    let take := min x.offer rem
    let r := walk own (rem - take) xs
    (if x.node = own then take else r.1, r.2)

/-! ### The calls (R99) -/

/-- R99: the call sum over the eligible vents already called. -/
def State.callSum (s : State) (z : Zone) : Nat :=
  sumOver fun v => if s.eligible z v && s.isCalled v then (s.cfg v).product 1000 else 0

/-- R99: v comes before w among the uncalled: the lower rank, then the lower index. -/
def State.calledBefore (s : State) (v w : VentId) : Bool :=
  decide ((s.cfg v).rank < (s.cfg w).rank) || ((s.cfg v).rank == (s.cfg w).rank && decide (v < w))

/-- R99: a vent is put before the first vent it comes before. -/
def State.insertByRank (s : State) (v : VentId) : List VentId → List VentId
  | [] => [v]
  | w :: ws => if s.calledBefore v w then v :: w :: ws else w :: s.insertByRank v ws

/-- R99: the eligible vents not yet called, in ascending rank. -/
def State.uncalled (s : State) (z : Zone) : List VentId :=
  (eight.filter fun v => s.eligible z v && !s.isCalled v).foldr s.insertByRank []

/-- R99: vents are called until the call sum reaches the threshold or none remains. -/
def callUntil (s : State) (threshold : Nat) : Nat → VentSet → List VentId → VentSet
  | _, set, [] => set
  | sum, set, v :: vs =>
    if threshold ≤ sum then set
    else callUntil s threshold (sum + (s.cfg v).product 1000) (set ||| only v) vs

/-- R99: the called reserve set after the calls an own take requires. -/
def State.callsFor (s : State) (z : Zone) (take : Nat) : VentSet :=
  if take = 0 then s.area.calledSet
  else callUntil s (take * 256000) (s.callSum z) s.area.calledSet (s.uncalled z)

/-! ### Recompute (R101, R102) -/

/-- What the fire pattern is formed from: the set, the windward flags and the called reserve set (R16, R17). -/
def State.patternInputs (s : State) : ZoneSet × List Bool × VentSet :=
  (s.fire.zones, eight.map fun v => s.windward[v].flag, s.area.calledSet)

/-- R16, R17, R35: the FIRE records are written again when what the pattern is formed from has changed. -/
def syncPattern (before s : State) : State := if before.patternInputs = s.patternInputs then s else writePattern s

/-- R35, R36: the vent's FIRE record waits for the calls of this event: a RESERVE of the balance zone, not called yet, with
no BRIGADE record above it. A STALLED one does not wait: what it makes of its demand decides whether it is eligible, and the
recompute reads the Drive Unit as the event leaves it (R92, R102; log entry 7). -/
def State.awaitsCalls (s : State) (v : VentId) : Bool :=
  match s.area.balance with
  | some z => (s.cfg v).role == .reserve && memberOf z (s.cfg v).mask && s.demand[v].brigade.isNone && !s.isCalled v &&
      s.vents[v].state != .stalled
  | none => false

/-- R102, first half: own primary planned, own reserve offer, the walk, own take, SHORT, the calls. -/
def allocate (z : Zone) (s : State) : State :=
  let primary := areaReport (s.primarySum z)
  let offer := areaReport (s.offerSum z)
  let l := s.shares z primary offer
  let w := walk s.image.node (deficit (s.image.required[z]) l) l
  s.withArea { s.area with
    primary := primary, offer := offer, take := w.1, short := decide (0 < w.2), calledSet := s.callsFor z w.1 }

/-- R102, second half: own reserve called, own achieved and the flags SAT and UNKNOWN, from the set as the calls leave
it. SAT covers the four figures of the report (R87). -/
def formReport (z : Zone) (offeredSums : Nat × Nat) (s : State) : State :=
  s.withArea { s.area with
    called := areaReport s.calledSum
    achieved := areaReport (s.achievedSum z)
    sat := areaSaturates offeredSums.1 || areaSaturates offeredSums.2 || areaSaturates s.calledSum ||
      areaSaturates (s.achievedSum z)
    unknown := s.unknownTerm z }

/-- R101, R102: a recompute for the balance zone. Its calls rewrite the FIRE records, and what they leave as effective
demands reaches the Drive Unit, set against the state `before` that the event found, before the report is formed. -/
def recompute (before s : State) : State :=
  match s.area.balance with
  | none => s
  | some z =>
    formReport z (s.primarySum z, s.offerSum z) (settleDemands everyVent before (syncPattern s (allocate z s)))

/-- R103: the content of an AREA. -/
def State.areaContent (s : State) (z : Zone) : AreaContent where
  zone := z
  primary := s.area.primary
  offer := s.area.offer
  called := s.area.called
  achieved := s.area.achieved
  sat := s.area.sat
  unknown := s.area.unknown
  short := s.area.short

/-! ### The balance zone and the removals (R86, R100) -/

/-- R86: the balance starts, restarts and stops with the lead zone. -/
def syncBalance (before s : State) : State :=
  if before.fire.zones = s.fire.zones ∧ before.area.balance = s.area.balance then s
  else if s.area.balance = s.leadZone then s
  else
    match s.leadZone with
    | none => s.withArea Area.reset
    | some z => s.withArea { s.area with balance := some z, calledSet := 0 }

/-- R100: a called vent whose windward flag takes effect, or that enters LOCKED, leaves the called reserve set. -/
def dropCalls (before s : State) : State :=
  let leaves := fun v : VentId =>
    (s.windward[v].flag && !before.windward[v].flag) ||
      (s.vents[v].state == .locked && before.vents[v].state != .locked)
  let kept := eight.foldl (fun m v => if leaves v then without m v else m) s.area.calledSet
  s.withArea { s.area with calledSet := kept }

/-- R102: the events that make the unit recompute, read off the states before and after. A change of effective class with the
target unchanged is one of them: it reaches the unit as a change of the vent's target (R24). -/
def recomputeDue (before after : State) : Bool :=
  before.area.balance != after.area.balance ||
    (eight.any fun v => after.used v &&
      (before.vents[v].state != after.vents[v].state || before.effective v != after.effective v)) ||
    (eight.any fun v => before.windward[v].flag != after.windward[v].flag) ||
    ((before.weather.effWind == .unknown) != (after.weather.effWind == .unknown)) ||
    ((List.finRange 30).any fun n =>
      match before.peers[n], after.peers[n] with
      | some p, some q => p.fresh != q.fresh
      | some _, none => true
      | none, _ => false)

end Sys2Proof.Machine
end

