-- ==== Sys2Proof/Machine/Forecast.lean ====
section
/-! DEFINITION. The Weather Unit (chapter 6): speed, direction, own wind state, the effective weather, windward verdicts. -/

namespace Sys2Proof.Machine

/-! ### Source side (R108 to R115) -/

/-- R109: the speed of the periods held. -/
def speedOf (c : Nat) (history : List Nat) : Nat :=
  min Config.maxSpeed (roundEven (c * 10000 * history.length) history.sum)

/-- R108: a period joins the history, the oldest leaving if four were held. -/
def joinHistory (history : List Nat) (p : Nat) : List Nat :=
  if history.length < 4 then history ++ [p] else history.tail ++ [p]

/-- R113, R114: the hold timer of a state entered, or of one whose on threshold is reached again, starts from now. -/
def State.holdFrom (s : State) (w : WindState) : Option Micros :=
  match w with
  | .calm => none
  | .windy => some (s.now + Config.sec s.image.windyHold)
  | .storm => some (s.now + Config.sec s.image.stormHold)

/-- R113: the state a speed raises the present state to. -/
def Image.raised (k : Image) (w : WindState) (speed : Nat) : WindState :=
  match w with
  | .calm => if k.stormOn ≤ speed then .storm else if k.windyOn ≤ speed then .windy else .calm
  | .windy => if k.stormOn ≤ speed then .storm else .windy
  | .storm => .storm

/-- R113: the on threshold of a state; CALM has none. -/
def Image.onThreshold (k : Image) (w : WindState) : Option Nat :=
  match w with
  | .calm => none
  | .windy => some k.windyOn
  | .storm => some k.stormOn

/-- R114: one level down, when the speed is at or below the present state's off threshold. -/
def Image.lowered (k : Image) (w : WindState) (speed : Nat) : WindState :=
  match w with
  | .calm => .calm
  | .windy => if speed ≤ k.windyOff then .calm else .windy
  | .storm => if speed ≤ k.stormOff then .windy else .storm

/-- R114: the hold timer has expired: it is stopped, or its time has come. -/
def Weather.holdExpired (w : Weather) (now : Micros) : Bool := w.windHold.isNone || due w.windHold now

/-- R113, R114: the own wind state is evaluated at an evaluation of the speed: it rises at once, it starts its hold again
at its on threshold, or it falls one level when the hold has expired. -/
def evaluateWind (s : State) : State :=
  let w := s.weather
  let up := s.image.raised w.wind w.speed
  if up ≠ w.wind then s.updWeather fun x => { x with wind := up, windHold := s.holdFrom up }
  else if (match s.image.onThreshold w.wind with
      | some t => decide (t ≤ w.speed)
      | none => false) then
    s.updWeather fun x => { x with windHold := s.holdFrom w.wind }
  else if w.holdExpired s.now then
    let down := s.image.lowered w.wind w.speed
    if down ≠ w.wind then s.updWeather fun x => { x with wind := down, windHold := s.holdFrom down } else s
  else s

/-- R108: the calm timeout empties the history; the speed becomes 0, which is an evaluation. -/
def calmDown (s : State) : State :=
  evaluateWind (s.updWeather fun w => { w with history := [], lastPulse := none, speed := 0 })

/-- R108: the pulse at the present time is accepted as a new reference. -/
def newReference (s : State) : State := s.updWeather fun w => { w with lastPulse := some s.now }

/-- R108, R109: a pulse of the evaluated anemometer input. A pulse at which the 2 s have passed finds the calm timeout
come (log entry 16). -/
def takePulse (s : State) : State :=
  match s.weather.lastPulse with
  | none => newReference s
  | some t =>
    if s.now - t < Config.pulseReject then s
    else if s.now - t < Config.calm then
      let h := joinHistory s.weather.history (s.now - t)
      evaluateWind ((newReference s).updWeather fun w =>
        { w with history := h, speed := speedOf s.image.anemometer h })
    else newReference (calmDown s)

/-- R110: a vane reading sets the direction, or the vane fault at the rails. -/
def takeVane (r : Nat) (s : State) : State :=
  if r < 8 ∨ 1015 < r then s.updWeather fun w => { w with vaneFault := true, dir := none }
  else s.updWeather fun w =>
    { w with vaneFault := false, dir := some ((r * 360 / 1024 + s.image.vaneOffset) % 360) }

/-- R111: the comparator stands at a level: opposite to the filtered level a confirmation starts, at it the confirmation
is discarded. -/
def comparatorAt (wet : Bool) (s : State) : State :=
  s.updWeather fun w =>
    { w with rainConfirm := if wet = w.wetFiltered then none else some (s.now + Config.rainConfirm) }

/-- R111: the confirmation completes: the filtered level takes the comparator's. WET stops the dry hold and makes the
rain state RAIN; DRY starts the dry hold of a RAIN state. -/
def confirmRain (s : State) : State :=
  s.updWeather fun w =>
    if w.wetFiltered then
      { w with wetFiltered := false, rainConfirm := none
               dryHold := if w.rain then some (s.now + Config.dryHold) else w.dryHold }
    else { w with wetFiltered := true, rainConfirm := none, dryHold := none, rain := true }

/-- R115: the values a WEATHER frame carries. -/
def State.weatherContent (s : State) : WeatherContent where
  speed := s.weather.speed
  dir := s.weather.dir.getD 65535
  wind := s.weather.wind
  rain := s.weather.rain
  vaneFault := s.weather.vaneFault

/-! ### The effective weather (R116) -/

/-- R116: a candidate: its wind state, direction and rain. -/
structure Candidate where
  node : StationNode
  wind : WindState
  dir  : Option Nat
  rain : Bool
  deriving DecidableEq, Repr

/-- R116: the candidate a node gives: the station itself if it is a source, a peer while its entry is FRESH and holds a
weather record. -/
def State.candidate (s : State) (n : StationNode) : Option Candidate :=
  if n.val = s.image.node then
    if s.isSource then some { node := n, wind := s.weather.wind, dir := s.weather.dir, rain := s.weather.rain } else none
  else
    match s.peers[n] with
    | some p =>
      if p.fresh then p.weather.map fun w => { node := n, wind := w.wind, dir := w.dir, rain := w.rain } else none
    | none => none

/-- R116: the candidates in ascending node number. -/
def State.candidates (s : State) : List Candidate := (List.finRange 30).filterMap s.candidate

/-- R116: the wind state and direction of the lowest-numbered candidate, the rain of any. -/
def formWeather (s : State) : State :=
  let l := s.candidates
  s.updWeather fun w => { w with
    selected := l.head?.map Candidate.node
    effWind := match l with
      | [] => .unknown
      | c :: _ => .known c.wind
    effDir := match l with
      | [] => none
      | c :: _ => c.dir
    effRain := l.any Candidate.rain }

/-! ### Windward verdicts (R117 to R119) -/

/-- R118: verdicts are judged while the effective wind state is WINDY or STORM and the direction is valid: the wind's
direction then. -/
def Weather.judging (w : Weather) : Option Nat :=
  match w.effWind with
  | .known .windy | .known .storm => w.effDir
  | .known .calm | .unknown => none

/-- R106, R118: the facing of a vent that takes verdicts: used, PRIMARY or RESERVE, not FLAT. -/
def VentCfg.judgedFacing (c : VentCfg) : Option Nat :=
  if c.used && (c.role == .primary || c.role == .reserve) then c.facing else none

/-- R118: the candidate verdict at a wind direction, with the 10 degree band of hysteresis. -/
def verdict (alpha dir facing : Nat) (windward : Bool) : Bool :=
  if windward then decide (angleBetween dir facing < alpha + 10) else decide (angleBetween dir facing < alpha)

/-- R118: the candidate of one vent judged again. -/
def State.judged (s : State) (v : VentId) : Bool :=
  match s.weather.judging, (s.cfg v).judgedFacing with
  | some w, some f => verdict s.image.alpha w f s.windward[v].candidate
  | _, _ => false

/-- R119: the flag takes the candidate at once and the timer is stopped. -/
def Windward.atOnce (x : Windward) (c : Bool) : Windward := { x with candidate := c, flag := c, persist := none }

/-- R119: the candidate persists: the timer starts when the candidate comes to differ from the flag, is stopped when it
agrees, and runs on while it keeps its differing value. -/
def Windward.persisting (x : Windward) (c : Bool) (now : Micros) : Windward :=
  { x with
    candidate := c
    persist :=
      if c = x.flag then none
      else
        match x.persist with
        | some t => some t
        | none => some (now + Config.persistence) }

/-- R117 to R119: every vent is judged again, at once or with persistence. -/
def judgeAll (immediate : Bool) (s : State) : State :=
  s.withWindward (Vector.ofFn fun v : Fin 8 =>
    if immediate then s.windward[v].atOnce (s.judged v) else s.windward[v].persisting (s.judged v) s.now)

/-- R117, R119: what a change of the effective wind state or direction does to the verdicts. They are set at once when
judging begins or ends, and persist while it goes on. -/
def syncVerdicts (before s : State) : State :=
  if before.weather.effWind = s.weather.effWind ∧ before.weather.effDir = s.weather.effDir then s
  else judgeAll (before.weather.judging.isNone || s.weather.judging.isNone) s

/-- R116, R117: the effective weather is formed again and its changes reach the verdicts. -/
def reformWeather (s : State) : State := syncVerdicts s (formWeather s)

/-- R119: a persistence timer expires: the flag takes the candidate. -/
def persistenceEnds (v : VentId) (s : State) : State :=
  s.updWindward v fun x => { x with flag := x.candidate, persist := none }

/-- R121: the WEATHER records are written or removed as the effective rain or STORM changes. -/
def syncWeatherRecords (before s : State) : State :=
  if before.weather.effRain = s.weather.effRain ∧
      (before.weather.effWind = .known .storm ↔ s.weather.effWind = .known .storm) then s
  else writeWeatherRecords s

end Sys2Proof.Machine
end

