-- ==== Sys2Proof/Machine/Alarm.lean ====
section
/-! DEFINITION. The Fire State Logic (chapter 1): epochs, local alarms, the application of a newer epoch, the reset button. -/

namespace Sys2Proof.Machine

/-- R2, R119: fire mode has begun in this event, so every windward verdict is evaluated at once. An application that
adds zones again is a beginning too (R11). -/
def fireBegan (applied : Bool) (before s : State) : State :=
  if s.fireMode && (applied || !before.fireMode) then judgeAll true s else s

/-- R5: a local alarm for a zone. A zone already held changes nothing; in RUN a new one queues an ALARM with the applied
epoch. -/
def localAlarm (z : Zone) (s : State) : State :=
  if memberOf z s.fire.zones then s
  else
    let s := s.withFire { s.fire with zones := s.fire.zones ||| only z }
    if s.inRun then offer (.alarm z s.fire.epoch) none s else s

/-- R13, R128: a call point whose debounced level is active gives its local alarm. -/
def callPointAlarm (s : State) (t : TermId) : State :=
  match s.fn t with
  | .callPoint z => if s.terms[t].debounced then localAlarm z s else s
  | _ => s

/-- The terminal's function is SMOKE_LOOP. -/
def TermFn.isLoop : TermFn → Bool
  | .smokeLoop _ => true
  | _ => false

/-- R130, R132: loop power is switched off; the loop enters OFF, its other timers stop, the 5 s power cycle starts. -/
def Term.cutPower (x : Term) (now : Micros) : Term :=
  { x with loop := .off, band := none, confirm := none, faultTimer := none, cycle := some (now + Config.powerCycle) }

/-- R132: every SMOKE_LOOP terminal is power-cycled. -/
def cycleLoops (s : State) : State :=
  s.withTerms (Vector.ofFn fun t : Fin 6 => if (s.fn t).isLoop then s.terms[t].cutPower s.now else s.terms[t])

/-- R12: LOCKED vents are released and every stall retry count becomes 0. -/
def releaseVents (s : State) : State :=
  s.withVents (Vector.ofFn fun v : Fin 8 => { s.vents[v].unlock with retries := 0 })

/-- R11 to R13: a newer epoch is applied, then the carried zones are added, then the active call points raise their
alarms again (R178 gives that order; log entry 19), in ascending terminal number (log entry 36). The FIRE records follow
from the set (R35). -/
def applyNewer (e : Epoch) (carried : ZoneSet) (s : State) : State :=
  let t := s.withFire { zones := carried, epoch := e, known := true }
  let t := (cycleLoops (releaseVents t)).withArea Area.reset
  fireBegan true s (forSix callPointAlarm t)

/-- R4: an epoch is adopted without a reset, and the content is added. -/
def adoptEpoch (e : Epoch) (carried : ZoneSet) (s : State) : State :=
  fireBegan false s (s.withFire { zones := s.fire.zones ||| carried, epoch := e, known := true })

/-- R3: content of an equal epoch is added to the set. -/
def addZones (carried : ZoneSet) (s : State) : State :=
  fireBegan false s (s.withFire { s.fire with zones := s.fire.zones ||| carried })

/-- R3, R4, R8 to R10: a frame carries epoch e and the zones given (none for RESET). -/
def takeEpoch (e : Epoch) (carried : ZoneSet) (s : State) : State :=
  if !s.fire.known then adoptEpoch e carried s
  else if e = s.fire.epoch then addZones carried s
  else if newer e s.fire.epoch then applyNewer e carried s
  else s

/-- R5: a local alarm from a terminal, with the beginning of fire mode where it is the first member. -/
def raiseAlarm (z : Zone) (s : State) : State := fireBegan false s (localAlarm z s)

/-- R15: a press of the reset button, ignored outside RUN. -/
def resetPress (s : State) : State :=
  if s.inRun then
    let e := s.fire.epoch + 1
    offer (.reset e) none (applyNewer e 0 s)
  else s

/-- R4, R7: at the end of JOIN the adoption still due is completed and one ALARM per member is queued, ascending. The
station is in RUN by then. -/
def endOfJoinAlarms (s : State) : State :=
  let s := if s.fire.known then s else s.withFire { s.fire with epoch := 0, known := true }
  forEight (fun s z => if memberOf z s.fire.zones then offer (.alarm z s.fire.epoch) none s else s) s

end Sys2Proof.Machine
end

