-- ==== Sys2Proof/Machine/Peers.lean ====
section
/-! DEFINITION. The Peer Table (chapter 9): creation and refresh, the records, withdrawal, ageing. -/

namespace Sys2Proof.Machine

/-- R159: the entry a frame finds, created where none exists, FRESH and heard now. -/
def State.heardEntry (s : State) (n : StationNode) : Peer :=
  match s.peers[n] with
  | some p => { p with fresh := true, heard := s.now }
  | none => Peer.created s.now

/-- R159, R154: a frame from a station other than the own node refreshes its entry and its fields are applied. -/
def refreshPeer (n : StationNode) (f : Peer → Peer) (s : State) : State :=
  if n.val = s.image.node then s else s.setPeer n (some (f (s.heardEntry n)))

/-- R162: the area record is withdrawn when the frame leaves the set empty, leaves it with another lowest member than the
record's zone, or changes a reported epoch. -/
def Peer.withdrawArea (old p : Peer) : Peer :=
  match p.area with
  | none => p
  | some a =>
    let moved := decide (lowest p.zones ≠ some a.zone)
    let newEpoch :=
      match old.epoch, p.epoch with
      | some x, some y => decide (x ≠ y)
      | _, _ => false
    if moved || newEpoch then { p with area := none } else p

/-- R160: ALARM. -/
def Peer.takeAlarm (z : Zone) (e : Epoch) (p : Peer) : Peer :=
  Peer.withdrawArea p
    (if p.epoch = some e then { p with zones := p.zones ||| only z } else { p with epoch := some e, zones := only z })

/-- R160: RESET. -/
def Peer.takeReset (e : Epoch) (p : Peer) : Peer := Peer.withdrawArea p { p with epoch := some e, zones := 0 }

/-- R160: DRAW; a non-zero inrush draw sets the expiry, one of 0 removes it. -/
def Peer.takeDraw (c : DrawContent) (windowMs : Nat) (now : Micros) (p : Peer) : Peer :=
  { p with
    running := c.running, inrush := c.inrush, pending := c.pending
    inrushEnds := if c.inrush = 0 then none else some (now + Config.ms windowMs) }

/-- R160: STATUS. -/
def Peer.takeStatus (c : StatusContent) (p : Peer) : Peer :=
  Peer.withdrawArea p
    { p with zones := c.zones, epoch := some c.epoch, running := c.running, pending := c.pending }

/-- R161: the AREA is late: its zone is a member of the entry's set and not the lowest. -/
def Peer.lateArea (p : Peer) (z : Zone) : Bool := memberOf z p.zones && decide (lowest p.zones ≠ some z)

/-- R161: AREA. -/
def Peer.takeArea (c : AreaContent) (p : Peer) : Peer :=
  if p.lateArea c.zone then p
  else { p with area := some { zone := c.zone, primary := c.primary, offer := c.offer } }

/-- R163: WEATHER; a direction of 360 or more is held as invalid. -/
def Peer.takeWeather (c : WeatherContent) (now : Micros) (p : Peer) : Peer :=
  let dir := if c.dir < 360 then some c.dir else none
  { p with weather := some { dir := dir, wind := c.wind, rain := c.rain, heard := now } }

/-- R167, R102: the AREA is taken into the record, and the new record names the balance zone or the one it replaces
did. -/
def areaCounts (n : StationNode) (c : AreaContent) (s : State) : Bool :=
  if n.val = s.image.node then false
  else
    let p := s.heardEntry n
    !p.lateArea c.zone &&
      (s.area.balance == some c.zone ||
        match p.area with
        | some a => s.area.balance == some a.zone
        | none => false)

/-- The time a length after an entry's instant has come. -/
def passed (since : Micros) (length : Micros) (now : Micros) : Bool := decide (since + length ≤ now)

/-- R164: the inrush expiry of an entry passes. -/
def inrushPasses (n : StationNode) (s : State) : State :=
  s.setPeer n (s.peers[n].map fun p => { p with inrush := 0, inrushEnds := none })

/-- R165: an entry becomes STALE. -/
def goStale (n : StationNode) (s : State) : State := s.setPeer n (s.peers[n].map fun p => { p with fresh := false })

/-- R166: an entry is evicted. -/
def evictPeer (n : StationNode) (s : State) : State := s.setPeer n none

/-- R163: a weather record is withdrawn. -/
def dropWeather (n : StationNode) (s : State) : State := s.setPeer n (s.peers[n].map fun p => { p with weather := none })

end Sys2Proof.Machine
end

