-- ==== Sys2Proof/Machine/Flags.lean ====
section
/-! DEFINITION. The conditions and flags the station shows: the nine signal conditions (R136), the outputs (R136 to R138)
and the fields of STATUS (R152). -/

namespace Sys2Proof.Machine

/-- R135: the TERMINAL_FAULT condition. -/
def State.terminalFault (s : State) : Bool :=
  (six.any fun t => (s.fn t).isLoop && s.terms[t].fault) || s.weather.vaneFault || s.keyPos == .fault

/-- R136: WEATHER_CLOSE. -/
def State.weatherClose (s : State) : Bool := eight.any fun v => s.used v && s.demand[v].weather.isSome

/-- R136: LINE_DEGRADED holds while the line state is LINE_MUTE or LINE_LOST. -/
def State.lineDegraded (s : State) : Bool := s.lineDown

/-- R136, R181: the nine conditions in the order of the selection set's bits. -/
def State.conditions (s : State) : List Bool :=
  [s.fireMode, decide (0 < s.lockedCount), s.weatherClose, s.lineDegraded, s.terminalFault, s.mains.battery,
    s.positionUnknown, s.area.short, s.line.clash]

/-- R136: at least one condition of the selection set holds. -/
def State.signal (s : State) : Bool :=
  (List.finRange 9).any fun i => s.image.signals.getLsbD i.val && s.conditions.getD i.val false

/-- R136 to R138, R175: the level of every output terminal. -/
def State.outputLevels (s : State) : Vector Bool 6 :=
  match s.boot.station with
  | .inReset _ | .loading => Vector.replicate 6 false
  | .fallback => Vector.ofFn fun t : Fin 6 => t == 5
  | .join | .run => Vector.ofFn fun t : Fin 6 =>
    match s.fn t with
    | .signalOut => s.signal
    | .lampFire => s.fireMode
    | _ => false

/-- R136, R137: the outputs follow their conditions in the event that changes one of them. -/
def syncOutputs (before s : State) : State :=
  if before.outputLevels = s.outputLevels then s else s.withOutputs s.outputLevels

/-- R152: the fields of a STATUS as they stand. -/
def State.statusContent (s : State) : StatusContent where
  fireMode := s.fireMode
  battery := s.mains.battery
  lineDegraded := s.line.latch
  terminalFault := s.terminalFault
  nodeClash := s.line.clash
  areaShort := s.area.short
  posUnknown := s.positionUnknown
  zones := s.fire.zones
  epoch := s.fire.epoch
  running := s.ownRunning
  pending := s.pendingClass
  locked := s.lockedCount
  rxErrors := s.line.rxErrors
  cause := s.line.cause

end Sys2Proof.Machine
end

