-- ==== Sys2Proof/Machine/Settle.lean ====
section
/-! DEFINITION. What an event brings about in the other blocks once its own effect is made: the parts of one event in one
order (log entries 7 and 8). Each part acts on the difference between the state before the event and the state so
far, so that an event that changes nothing for a block leaves it alone. -/

namespace Sys2Proof.Machine

/-- What a command tells the blocks beside what its effect shows: a heartbeat with the recessive bit times seen at it
(R151), and a cause for a recompute that leaves no mark in State (an AREA taken, the passage to RUN; R102, R104). -/
structure Causes where
  heartbeat : Option Nat
  area      : Bool
  deriving DecidableEq, Repr

/-- No cause beside the effect. -/
def Causes.none : Causes := { heartbeat := Option.none, area := false }

/-- R86, R100, R17, R35, R121: the balance zone follows the lead zone, called vents that can no longer serve leave, FIRE
and WEATHER records follow. -/
def syncRecords (before s : State) : State :=
  syncWeatherRecords before (syncPattern before (dropCalls before (syncBalance before s)))

/-- R24, R35, R36, R59: with the records in line, the Drive Unit takes the effective demands that do not wait for the
calls of this event (`State.awaitsCalls`), and the released vents among them are evaluated. -/
def align (before s : State) : State :=
  let r := syncRecords before s
  settleDemands (fun v => !r.awaitsCalls v) before r

/-- R102, R104: a recompute is made when due, while fire mode holds, in JOIN and RUN. R36: with it or without it the
Drive Unit takes the effective demands that waited for the calls. -/
def rebalance (wanted : Bool) (before s : State) : State :=
  if wanted && s.fireMode && s.active then recompute before s else settleDemands everyVent before s

/-- R70: the pre-check, when one of its events has happened. -/
def schedule (before s : State) : State := if preCheckDue before s then serve 9 s else s

/-! ### Frames offered at the end of an event -/

/-- R74: the content the current content is compared with. -/
def Supply.accepted (x : Supply) : DrawContent := x.lastDraw.getD { running := 0, inrush := 0, pending := none }

/-- R73, R74, R81: a DRAW is composed in this event. -/
def drawDue (before s : State) : Bool :=
  s.inRun &&
    ((before.lineDown && s.line.state == .ok) ||
      (s.supply.start.isSome && before.supply.start != s.supply.start) ||
      (s.drawContent != s.supply.accepted && (before.drawContent != s.drawContent || frameLeft before s)))

/-- R73, R74, R78: a DRAW with the current content is offered. Taken, it becomes the last DRAW accepted, and the mark
names the start whose announcement it carries. Refused, a start not yet announced ends and its vent returns (log entry
14; for a DRAW dropped or evicted, log entry 44). -/
def offerDraw (s : State) : State :=
  let f := Frame.draw s.drawContent
  let ann := s.supply.start.map Start.id
  if s.takes f then
    (offer f ann s).updSupply fun x => { x with lastDraw := some s.drawContent, mark := ann }
  else
    match s.supply.start with
    | some x => if s.supply.mark = some x.id then s else returnStart x.vent s
    | none => s

/-- R74: at most one DRAW per event. -/
def sendDraw (before s : State) : State := if drawDue before s then offerDraw s else s

/-- The station passes from JOIN to RUN in this event (R174). -/
def passage (before s : State) : Bool := decide (before.boot.station = .join) && s.inRun

/-- R151: a STATUS is composed at a heartbeat and at the passage to RUN, in LINE_OK. -/
def sendStatus (c : Causes) (before s : State) : State :=
  if c.heartbeat.isSome || passage before s then offer (.status s.statusContent) none s else s

/-- R103: an AREA is offered at a heartbeat, and after a recompute whose content differs from the last AREA sent. -/
def sendArea (c : Causes) (recomputed : Bool) (s : State) : State :=
  match s.area.balance with
  | none => s
  | some z =>
    let x := s.areaContent z
    if s.inRun && s.fireMode && (c.heartbeat.isSome || (recomputed && s.area.lastSent != some x)) then
      if s.takes (.area x) then (offer (.area x) none s).withArea { s.area with lastSent := some x } else s
    else s

/-- R115: a source offers a WEATHER at a heartbeat, at a change of its wind state, rain state or vane fault, and at the
passage to RUN. -/
def sendWeather (c : Causes) (before s : State) : State :=
  if s.inRun && s.isSource &&
      (c.heartbeat.isSome || passage before s || before.weather.wind != s.weather.wind ||
        before.weather.rain != s.weather.rain || before.weather.vaneFault != s.weather.vaneFault) then
    offer (.weather s.weatherContent) none s
  else s

/-- R147: at a heartbeat in LINE_LOST a recovery attempt is made when the line has been recessive for 10 bit times. The
recovery DRAW is on the line from this event on: the SUPPLY quiet time, counted from the line's return (R142), is over by then
and gets no event of its own (the model's choice, log entry 43). -/
def tryRecovery (c : Causes) (s : State) : State :=
  match c.heartbeat with
  | some bits =>
    if s.inRun && s.line.state == .lost && decide (Config.recoveryQuiet ≤ bits) then
      s.updLine fun l => { l with recovery := some s.drawContent }
    else s
  | none => s

/-! ### The whole event -/

/-- A recompute is due after the parts of `align`: an event of R102, a restart of the balance (R86), or a cause of the
command's own. -/
def balanceDue (c : Causes) (before s aligned : State) : Bool :=
  c.area || c.heartbeat.isSome || recomputeDue before aligned || s.area.balance != aligned.area.balance

/-- The blocks' own decisions: align, recompute, pre-check, and both once more for what the calls and the pre-check
changed (R101, R102; log entry 7). -/
def decideStarts (c : Causes) (before s : State) : State × Bool :=
  let a := align before s
  let due1 := balanceDue c before s a
  let b := rebalance due1 before a
  let d := schedule before b
  let due2 := recomputeDue a d
  let e := rebalance due2 d d
  (schedule d e, due1 || due2)

/-- The frames of an event, offered in ascending kind code (log entry 8). -/
def sendFrames (c : Causes) (before : State) (recomputed : Bool) (s : State) : State :=
  tryRecovery c (sendWeather c before (sendArea c recomputed (sendStatus c before (sendDraw before s))))

/-- The completion of an event: `before` is the state the event found and `s` the state after its own effect. -/
def finish (c : Causes) (before s : State) : State :=
  let d := decideStarts c before s
  syncOutputs before (writeRetention before (sendFrames c before d.2 d.1))

/-- A command: time passes, and where the event can be taken its effect is made and completed. -/
def event (dt : Micros) (taken : State → Bool) (causes : State → Causes) (effect : State → State) (s : State) :
    Host.Outcome State Fault Refusal :=
  let t := s.tick dt
  .next (if taken t then finish (causes t) t (effect t) else t)

/-- A command with no cause beside its effect. -/
def plainEvent (dt : Micros) (taken : State → Bool) (effect : State → State) (s : State) :
    Host.Outcome State Fault Refusal := event dt taken (fun _ => Causes.none) effect s

end Sys2Proof.Machine
end

