-- ==== Sys2Proof/Machine/ImageBytes.lean ====
section
/-! DEFINITION. The 202 image bytes: layout (R181), structural checks (R171), clamps (R172, R112). -/

namespace Sys2Proof.Machine

/-- The byte at a memory offset. -/
def byteAt (b : List Byte) (i : Nat) : Nat := (b.getD i 0).toNat

/-- A two-byte field, the more significant byte first (chapter 11). -/
def wordAt (b : List Byte) (i : Nat) : Nat := byteAt b i * 256 + byteAt b (i + 1)

/-- R181: where the record of a vent begins. -/
def ventBase (v : VentId) : Nat := 38 + 18 * v.val

/-- R181: where the record of a terminal begins. -/
def termBase (t : TermId) : Nat := 182 + 2 * t.val

/-- R181: a bit of the first byte of a vent record. -/
def ventFlag (b : List Byte) (v : VentId) (bit : Nat) : Bool := (byteAt b (ventBase v)).testBit bit

/-- R181: the channel numbers a used vent record names, as read. -/
def namedChannels (b : List Byte) (v : VentId) : List Nat :=
  let c := byteAt b (ventBase v + 1)
  if ventFlag b v 7 then if ventFlag b v 6 then [c, c + 1] else [c] else []

/-! ### Structural checks (R171) -/

/-- R171, R181: the format code. -/
def formatSound (b : List Byte) : Bool := wordAt b 0 == 0xA7D2

/-- R171, R181: the check word is the sum of the bytes at offsets 0 to 199 modulo 65536. -/
def checkWordSound (b : List Byte) : Bool := ((b.take 200).map BitVec.toNat).sum % 65536 == wordAt b 200

/-- R171: the node number. -/
def nodeSound (b : List Byte) : Bool := decide (byteAt b 2 ≤ 29)

/-- R171: T4 and T5 have no analog function. -/
def terminalsSound (b : List Byte) : Bool :=
  [(4 : TermId), 5].all fun t => byteAt b (termBase t) != 1 && byteAt b (termBase t) != 9

/-- R171, R181: a used vent's channel, tandem pair and PRIMARY home zone. -/
def ventSound (b : List Byte) (v : VentId) : Bool :=
  !ventFlag b v 7 ||
    (decide (byteAt b (ventBase v + 1) ≤ 7) && (!ventFlag b v 6 || byteAt b (ventBase v + 1) % 2 == 0) &&
      (byteAt b (ventBase v + 2) != 1 || decide (byteAt b (ventBase v + 3) ≤ 7)))

/-- R171: no channel is named by two used vents. -/
def channelsSound (b : List Byte) : Bool :=
  eight.all fun v => eight.all fun w =>
    v == w || (namedChannels b v).all fun c => !(namedChannels b w).contains c

/-- R171: the image is not refused. -/
def imageSound (b : List Byte) : Bool :=
  formatSound b && checkWordSound b && nodeSound b && terminalsSound b && eight.all (ventSound b) && channelsSound b

/-! ### Reading and clamping (R172, R181) -/

/-- R181: a role value above 3 is read as NONE. -/
def roleOf (x : Nat) : Role :=
  match x with
  | 1 => .primary
  | 2 => .reserve
  | 3 => .inlet
  | _ => .none

/-- R172, R181: 65535 is FLAT; any other value above 359 is clamped to 359. -/
def facingOf (x : Nat) : Option Nat := if x = 65535 then none else some (clamp 0 359 x)

/-- R172: a zone field is clamped to 0–7. -/
def zoneOf (x : Nat) : Zone := Fin.ofNat 8 (clamp 0 7 x)

/-- R181: a vent record, clamped; an unused record is not read. -/
def readVent (b : List Byte) (v : VentId) : VentCfg :=
  let o := ventBase v
  if ventFlag b v 7 then
    { used := true
      tandem := ventFlag b v 6
      comfort := ventFlag b v 5
      rainClose := ventFlag b v 4
      stormClose := ventFlag b v 3
      chan := Fin.ofNat 8 (byteAt b (o + 1))
      role := roleOf (byteAt b (o + 2))
      home := zoneOf (byteAt b (o + 3))
      mask := b.getD (o + 4) 0
      facing := facingOf (wordAt b (o + 5))
      area := clamp 1 4000 (wordAt b (o + 7))
      cd := clamp 1 255 (byteAt b (o + 9))
      openTime := clamp 1 1200 (wordAt b (o + 10))
      closeTime := clamp 1 1200 (wordAt b (o + 12))
      running := clamp 1 150 (byteAt b (o + 14))
      inrush := clamp 1 150 (byteAt b (o + 15))
      stall := clamp 1 150 (byteAt b (o + 16))
      rank := byteAt b (o + 17) }
  else VentCfg.unused

/-- R124, R172, R181: a terminal record; a function code above 13 is read as UNUSED. -/
def readTerm (b : List Byte) (t : TermId) : TermFn :=
  let parameter := termBase t + 1
  match byteAt b (termBase t) with
  | 1 => .smokeLoop (zoneOf (byteAt b parameter))
  | 2 => .callPoint (zoneOf (byteAt b parameter))
  | 3 => .keyOpen
  | 4 => .keyClose
  | 5 => .manualOpen (b.getD parameter 0)
  | 6 => .manualClose (b.getD parameter 0)
  | 7 => .rainSense
  | 8 => .windPulse
  | 9 => .windVane
  | 10 => .mainsMonitor
  | 11 => .signalOut
  | 12 => .resetButton
  | 13 => .lampFire
  | _ => .unused

/-- R112: an off threshold at or above its on threshold becomes the on threshold less 1. -/
def offBelow (on off : Nat) : Nat := if on ≤ off then on - 1 else off

/-- R172, R181: the image with every field clamped and the thresholds in order (R112). -/
def readImage (b : List Byte) : Image :=
  let windyOn := clamp 10 600 (wordAt b 10)
  let stormOn := max windyOn (clamp 10 600 (wordAt b 14))
  { node := byteAt b 2
    feedLimit := clamp 10 2000 (wordAt b 3)
    maxMotors := clamp 1 8 (byteAt b 5)
    inrushMs := clamp 100 2000 (wordAt b 6)
    manualHold := clamp 0 240 (byteAt b 8)
    alpha := clamp 30 90 (byteAt b 9)
    windyOn := windyOn
    windyOff := offBelow windyOn (clamp 0 599 (wordAt b 12))
    stormOn := stormOn
    stormOff := offBelow stormOn (clamp 0 599 (wordAt b 16))
    windyHold := clamp 0 3600 (wordAt b 18)
    stormHold := clamp 0 3600 (wordAt b 20)
    required := Vector.ofFn fun z : Fin 8 => wordAt b (22 + 2 * z.val)
    vents := Vector.ofFn (readVent b)
    terms := Vector.ofFn (readTerm b)
    signals := BitVec.ofNat 9 (wordAt b 194)
    anemometer := clamp 1 5000 (wordAt b 196)
    vaneOffset := clamp 0 359 (wordAt b 198) }

/-- R171 to R173: the configuration a completed read gives, or none when the image is refused. -/
def loadImage (b : List Byte) : Option Image := if imageSound b then some (readImage b) else none

end Sys2Proof.Machine
end

