-- ==== Sys2Proof/Machine/VentLine.lean ====
section
/-! DEFINITION. What the vent line does to the Line Controller (chapter 8): frames heard, start bits, arbitration, bit
errors, mute, stuck line, recovery, heartbeat. -/

namespace Sys2Proof.Machine

/-! ### Hearing a frame (R142, R147, R154) -/

/-- R147: the line has been recessive long enough before the frame's start bit to end LINE_LOST. -/
def Line.recovers (l : Line) (quiet : Nat) : Bool := l.state == .lost && decide (Config.recoveryQuiet ≤ quiet)

/-- R142, R147: a valid frame from another node clears own-last and may end LINE_LOST. -/
def Line.hear (l : Line) (quiet : Nat) : Line :=
  if l.recovers quiet then { l with ownLast := false, state := .ok, failures := 0, recovery := none }
  else { l with ownLast := false }

/-- A valid frame is heard. -/
def hear (quiet : Nat) (s : State) : State := s.updLine fun l => l.hear quiet

/-- R154: a valid frame with the station's own node number sets NODE_CLASH. -/
def noteClash (n : StationNode) (s : State) : State :=
  if n.val = s.image.node then s.updLine fun l => { l with clash := true } else s

/-- R116, R167: an entry of a peer other than the own node is STALE, so a frame from it makes it FRESH again. -/
def State.returns (s : State) (n : StationNode) : Bool :=
  decide (n.val ≠ s.image.node) &&
    match s.peers[n] with
    | some p => !p.fresh
    | none => false

/-- R154, R159: a valid frame of a station node reaches its entry; the effective weather is formed again when the entry
becomes FRESH again (R116). -/
def heardFrom (n : StationNode) (f : Peer → Peer) (s : State) : State :=
  let t := refreshPeer n f (noteClash n s)
  if s.returns n then reformWeather t else t

/-- R116, R163: a WEATHER frame reaches its entry and the effective weather is formed again. -/
def heardWeather (n : StationNode) (c : WeatherContent) (s : State) : State :=
  let t := refreshPeer n (Peer.takeWeather c s.now) (noteClash n s)
  if n.val = s.image.node then t else reformWeather t

/-- R153: a discarded frame is counted. R142: one received to the end of its check byte clears own-last. A recovery attempt
stands through it (log entry 43). -/
def Line.discard (l : Line) (c : DiscardCause) : Line :=
  { l with
    rxErrors := saturate 255 l.rxErrors
    ownLast := if c = .abandoned ∨ c = .violation then l.ownLast else false }

/-- R156: the states in which frames are received. -/
def State.receives (s : State) : Bool := s.active || decide (s.boot.station = .fallback)

/-! ### Sending (R142 to R144) -/

/-- R142: the quiet time of a class in bit times. -/
def quietTime (cls : Nat) (ownLast : Bool) : Nat := 6 + 2 * cls + (if ownLast then 4 else 0)

/-- R148: the head of the transmit queue. -/
def Line.head (l : Line) : Option Queued :=
  match l.tx with
  | some q => some q
  | none => l.waiting.head?

/-- R142: the station starts its start bit: RUN, LINE_OK, nothing being sent, quiet long enough for the head. -/
def State.starts (s : State) (bits : Nat) : Bool :=
  s.inRun && s.line.state == .ok && !s.line.sending &&
    match s.line.head with
    | some q => decide (quietTime q.frame.cls s.line.ownLast ≤ bits)
    | none => false

/-- R148: the head becomes, or stays, the frame in transmission. -/
def Line.start (l : Line) : Line :=
  match l.tx with
  | some _ => { l with sending := true }
  | none => { l with tx := l.waiting.head?, waiting := l.waiting.tail, sending := true }

/-- R143, R147: arbitration is lost: the frame stays in transmission, not being sent; a recovery attempt is abandoned. -/
def Line.loseArbitration (l : Line) : Line := { l with sending := false, recovery := none }

/-- R144, R148: the frame in transmission leaves the queue. -/
def Line.leave (l : Line) : Line := { l with tx := none, sending := false, errors := 0 }

/-- R80, R145: LINE_MUTE is entered: timer, queue emptied, latch; a start in progress is judged at once. -/
def enterMute (s : State) : State :=
  degradeStart (s.updLine fun l =>
    { l.emptied with state := .mute, mute := some (s.now + Config.mute), latch := true })

/-- R144, R157: the frame in transmission is dropped after its third error. -/
def Line.drop (l : Line) (q : Queued) : Line :=
  { l.leave with failures := saturate Config.muteFailures l.failures, waiting := succeed q l.waiting }

/-- R144, R145: the frame is dropped, its owner is told, and the sixteenth drop in a row mutes the line. The owner is told
of the drop first: an announcing DRAW returns its vent, and the mute finds no start in progress (log entry 38). -/
def dropFrame (q : Queued) (s : State) : State :=
  let t := drawLost q (s.updLine fun l => l.drop q)
  if t.line.failures = Config.muteFailures then enterMute t else t

/-- R143, R144, R147: a bit error abandons a recovery attempt, or counts against the frame being sent. -/
def bitError (s : State) : State :=
  if s.line.recovery.isSome then s.updLine fun l => { l with recovery := none }
  else
    match s.line.tx with
    | some q =>
      if s.line.errors + 1 < Config.dropErrors then
        s.updLine fun l => { l with errors := l.errors + 1, sending := false }
      else dropFrame q s
    | none => s

/-- R152, R177: what a STATUS that was sent gives up: the latch and the restart cause it carried. One composed before
that moment has them too and keeps them (log entry 39). -/
def Line.reported (l : Line) (f : Frame) : Line :=
  match f with
  | .status c =>
    { l with latch := l.latch && !c.lineDegraded, cause := if c.cause.isSome then none else l.cause }
  | .alarm _ _ | .reset _ | .draw _ | .area _ | .weather _ => l

/-- R75: the frame carried the announcement of the start in progress. -/
def Supply.announcedBy (x : Supply) (q : Queued) : Option VentId :=
  match x.start with
  | some st => if q.ann = some st.id ∧ x.mark = some st.id then some st.vent else none
  | none => none

/-- R75, R144: the frame in transmission has been sent without error. The run an announcing DRAW allows begins in this
event; a HOLD that meets the completion (R83) finds the start not taken, a later one stops the run under R54 (log entry
35). -/
def frameSent (s : State) : State :=
  match s.line.tx with
  | some q =>
    let t := s.updLine fun l => ({ l.leave with failures := 0, ownLast := true }).reported q.frame
    match s.supply.announcedBy q with
    | some v => commit v t
    | none => t
  | none => s

/-! ### Mute, stuck line, recovery (R145 to R147) -/

/-- R145: the mute timer expires. -/
def Line.unmute (l : Line) : Line := { l with state := .ok, mute := none, failures := 0 }

/-- R146: LINE_LOST as the stuck line leaves it. -/
def Line.stick (l : Line) : Line :=
  { l.emptied with state := .lost, mute := none, failures := 0, ownLast := false, latch := true }

/-- R146, R147, R80: a stuck line. In LINE_LOST it only ends a recovery attempt under way. -/
def stuckLine (s : State) : State :=
  match s.line.state with
  | .ok | .mute => degradeStart (s.updLine Line.stick)
  | .lost => s.updLine fun l => { l with recovery := none }
  | .listenOnly => s

/-- R147: the recovery DRAW has been sent without error. -/
def Line.recovered (l : Line) : Line := { l with state := .ok, ownLast := true, failures := 0, recovery := none }

/-! ### Heartbeat (R151) -/

/-- R151: the length of the next heartbeat period. -/
def State.heartbeatPeriod (s : State) : Micros := if s.fireMode then Config.heartbeatFire else Config.heartbeatCalm

/-- R151: the next period starts. -/
def startHeartbeat (s : State) : State := s.updLine fun l => { l with heartbeat := some (s.now + s.heartbeatPeriod) }

end Sys2Proof.Machine
end

