-- ==== Sys2Proof/Machine/StartUp.lean ====
section
/-! DEFINITION. Chip resets, the image read, JOIN, RUN and FALLBACK (chapter 10). -/

namespace Sys2Proof.Machine

/-! ### Chip resets (R176) -/

/-- Every block at its chip-reset values, with the retention memory cleared for POWER_ON only (R62, R63). The clock, the
waiting commands and the pins are not the reset's to change. -/
def resetBlocks (kind : ResetKind) (station : Station) (s : State) : State :=
  { State.reset with
    now := s.now
    event := s.event
    pending := s.pending
    pins := s.pins
    retention := if kind = .powerOn then Vector.replicate 8 none else s.retention
    line := Line.reset kind
    boot := { station := station, loader := .loading, attempt := 1, attemptAt := s.now, joinEnds := none } }

/-- R176: the kind of a reset that begins while another may last: POWER_ON whichever of the two began first. -/
def Station.merge (x : Station) (kind : ResetKind) : ResetKind :=
  if x = .inReset .powerOn then .powerOn else kind

/-- R176: a chip reset begins. -/
def beginReset (kind : ResetKind) (s : State) : State :=
  let k := s.boot.station.merge kind
  resetBlocks k (.inReset k) s

/-- R170, R176: a chip reset ends: LOADING and the first read attempt begin. -/
def endReset (s : State) : State :=
  match s.boot.station with
  | .inReset k => resetBlocks k .loading s
  | .loading | .join | .run | .fallback => s

/-! ### The read (R170, R171, R173, R175) -/

/-- R170: the image is being read. -/
def State.isLoading (s : State) : Bool := decide (s.boot.station = .loading) && decide (s.boot.loader = .loading)

/-- R173, R175: FALLBACK: no configuration, LISTEN_ONLY, T5 asserted; the retention memory is not touched. -/
def enterFallback (s : State) : State :=
  let t := (s.withBoot { s.boot with station := .fallback, loader := .failed }).updLine fun l => { l with state := .listenOnly }
  t.withOutputs t.outputLevels

/-- R170: the attempt under way is abandoned: the second begins, or the read has failed. -/
def abandonAttempt (s : State) : State :=
  if s.boot.attempt < 2 then s.withBoot { s.boot with attempt := 2, attemptAt := s.now } else enterFallback s

/-! ### JOIN (R134, R138, R173, R174) -/

/-- The functions that are contact inputs with a debounced level (R126). -/
def TermFn.isContact : TermFn → Bool
  | .callPoint _ | .keyOpen | .keyClose | .manualOpen _ | .manualClose _ | .resetButton => true
  | .unused | .smokeLoop _ | .rainSense | .windPulse | .windVane | .mainsMonitor | .signalOut | .lampFire => false

/-- R126: the debounce timer of a pin level: running while the pin differs from the debounced level. -/
def Term.atPin (x : Term) (active : Bool) (now : Micros) : Term :=
  { x with debounce := if active = x.debounced then none else some (now + Config.debounce) }

/-- R126, R130, R138: a terminal as evaluation begins. -/
def startTerm (f : TermFn) (pin : Bool) (now : Micros) : Term :=
  if f.isContact then Term.reset.atPin pin now
  else if f.isLoop then { Term.reset with loop := .watch }
  else Term.reset

/-- R134: the mains monitor's pin at a level. -/
def Mains.atPin (x : Mains) (active : Bool) (now : Micros) : Mains :=
  if x.battery then { x with back := if active then some (now + Config.mainsReturn) else none }
  else { x with loss := if active then none else some (now + Config.mainsLoss) }

/-- R134: NORMAL as evaluation begins; a pin that reads lost starts the loss timer. -/
def State.startMains (s : State) : Mains :=
  match s.firstTerm .mainsMonitor with
  | some t => Mains.reset.atPin s.pins[t] s.now
  | none => Mains.reset

/-- R133: the comparator is reported once as evaluation begins. -/
def startRain (s : State) : State :=
  match s.firstTerm .rainSense with
  | some t => comparatorAt s.pins[t] s
  | none => s

/-- R138: every terminal begins from its reset values. -/
def startTerminals (s : State) : State :=
  let s := s.withTerms (Vector.ofFn fun t : Fin 6 => startTerm (s.fn t) s.pins[t] s.now)
  startRain (s.withMains s.startMains)

/-- R173, R174: the clamped image becomes the configuration and the station enters JOIN. The WEATHER records, evaluated
with the reset values, are all absent (R121). -/
def enterJoin (k : Image) (s : State) : State :=
  let t := startTerminals (writeWeatherRecords (loadRetention (s.withImage k)))
  let t := t.withBoot { t.boot with station := .join, loader := .done, joinEnds := some (t.now + Config.join) }
  t.withOutputs t.outputLevels

/-- R171, R173: the read has completed. -/
def finishRead (bytes : List Byte) (s : State) : State :=
  match loadImage bytes with
  | some k => enterJoin k s
  | none => enterFallback s

/-! ### RUN (R7, R24, R60, R151, R174) -/

/-- R24, R60: each used vent's effective demand is handed on, and each is evaluated. -/
def handOnAll (s : State) : State := forEight (fun s v => if s.used v then handOnVent v s else s) s

/-- R174: the station enters RUN. -/
def enterRun (s : State) : State :=
  let t := s.withBoot { s.boot with station := .run, joinEnds := none }
  handOnAll (startHeartbeat (endOfJoinAlarms t))

end Sys2Proof.Machine
end

