-- ==== Sys2Proof/Machine/Boot.lean ====
section
/-! DEFINITION. The commands of resets and start-up (chapter 10). -/

namespace Sys2Proof.Machine

/-- POWER_ON_RESET (R176). -/
def execPowerOnReset (dt : Micros) (s : State) : Host.Outcome State Fault Refusal :=
  .next (beginReset .powerOn (s.tick dt))

/-- RESET_PIN_RESET (R176). -/
def execResetPinReset (dt : Micros) (s : State) : Host.Outcome State Fault Refusal :=
  .next (beginReset .resetPin (s.tick dt))

/-- CHIP_RESET_END (R170, R176). -/
def execChipResetEnd (dt : Micros) (s : State) : Host.Outcome State Fault Refusal := .next (endReset (s.tick dt))

/-- MEMORY_NO_ACKNOWLEDGE (R170). -/
def execMemoryNoAcknowledge (dt : Micros) (s : State) : Host.Outcome State Fault Refusal :=
  let t := s.tick dt
  .next (if t.isLoading then abandonAttempt t else t)

/-- READ_ATTEMPT_TIMEOUT (R170): 200 ms after the attempt began. -/
def execReadAttemptTimeout (dt : Micros) (s : State) : Host.Outcome State Fault Refusal :=
  let t := s.tick dt
  .next (if t.isLoading && decide (t.boot.attemptAt + Config.readAttempt ≤ t.now) then abandonAttempt t else t)

/-- IMAGE_READ_COMPLETE (R171 to R173): a read of other than 202 bytes has not completed (log entry 21). -/
def execImageReadComplete (dt : Micros) (bytes : List Byte) (s : State) : Host.Outcome State Fault Refusal :=
  let t := s.tick dt
  .next (if t.isLoading && bytes.length == 202 then finishRead bytes t else t)

/-- JOIN_TIMER_EXPIRY (R174). The Area Balance Unit offers its AREA in fire mode (R104). -/
def execJoinTimerExpiry (dt : Micros) (s : State) : Host.Outcome State Fault Refusal :=
  event dt (fun t => decide (t.boot.station = .join) && due t.boot.joinEnds t.now)
    (fun _ => { heartbeat := none, area := true }) enterRun s

end Sys2Proof.Machine
end

