-- ==== Sys2Proof/Machine/DriveEvents.lean ====
section
/-! DEFINITION. The commands of the Drive Unit's timers and current readings (R44 to R52, R57, R58). -/

namespace Sys2Proof.Machine

/-- The vent and the direction of a channel that is driven (R37, R43). -/
def State.driving (s : State) (c : ChanId) : Option (VentId × Dir) :=
  match s.owner c, s.chans[c].driven with
  | some v, some d => some (v, d)
  | _, _ => none

/-- An operation for the vent and direction of a driven channel; an undriven channel is not evaluated (R53). -/
def onDriven (c : ChanId) (f : VentId → Dir → State → State) (s : State) : State :=
  match s.driving c with
  | some (v, d) => f v d s
  | none => s

/-- R45: the stop time of a running vent has come. -/
def State.stopDue (s : State) (v : VentId) : Bool :=
  s.inRun && s.vents[v].state.running && due s.vents[v].stopTime s.now

/-- R45: the run ends at its target. -/
def reachStop (v : VentId) (s : State) : State :=
  match s.vents[v].target with
  | .pos p => stopAt v p s
  | .hold => s

/-- R52: the vent makes a run to an end or an anchoring run, and its limit has come. -/
def State.limitDue (s : State) (v : VentId) : Bool :=
  s.inRun && (s.vents[v].runKind == some .toEnd || s.vents[v].runKind == some .anchoring) &&
    match s.vents[v].state.dir with
    | some d => decide (s.runLimit v d ≤ s.now)
    | none => false

/-- R57: the DWELL has expired: the last direction becomes none and the vent is evaluated. -/
def endDwell (v : VentId) (s : State) : State := evaluate v (s.updVent v fun x => { x with lastDir := none })

/-- STOP_TIME_REACHED (R45). -/
def execStopTimeReached (dt : Micros) (vent : VentId) (s : State) : Host.Outcome State Fault Refusal :=
  plainEvent dt (fun t => t.stopDue vent) (reachStop vent) s

/-- START_WINDOW_END (R48, R49). -/
def execStartWindowEnd (dt : Micros) (chan : ChanId) (s : State) : Host.Outcome State Fault Refusal :=
  plainEvent dt (fun t => t.inRun && due t.chans[chan].window t.now)
    (onDriven chan fun v d t => endWindow v chan d t) s

/-- END_FILTER_EXPIRY (R49, R46). -/
def execEndFilterExpiry (dt : Micros) (chan : ChanId) (s : State) : Host.Outcome State Fault Refusal :=
  plainEvent dt (fun t => t.inRun && due t.chans[chan].endFilter t.now)
    (onDriven chan fun v d t => anchor v chan d t) s

/-- STALL_FILTER_EXPIRY (R50). -/
def execStallFilterExpiry (dt : Micros) (chan : ChanId) (s : State) : Host.Outcome State Fault Refusal :=
  plainEvent dt (fun t => t.inRun && due t.chans[chan].stallFilter t.now) (onDriven chan fun v _ t => stall v t) s

/-- SHORT_DETECTED (R51). -/
def execShortDetected (dt : Micros) (chan : ChanId) (s : State) : Host.Outcome State Fault Refusal :=
  plainEvent dt State.inRun (onDriven chan fun v _ t => short v t) s

/-- RUN_LIMIT_REACHED (R52). -/
def execRunLimitReached (dt : Micros) (vent : VentId) (s : State) : Host.Outcome State Fault Refusal :=
  plainEvent dt (fun t => t.limitDue vent) (runTimeout vent) s

/-- DWELL_EXPIRY (R57). -/
def execDwellExpiry (dt : Micros) (vent : VentId) (s : State) : Host.Outcome State Fault Refusal :=
  plainEvent dt (fun t => t.inRun && t.vents[vent].state == .dwell && due t.vents[vent].dwellEnds t.now)
    (endDwell vent) s

/-- COOL_DOWN_EXPIRY (R58). -/
def execCoolDownExpiry (dt : Micros) (vent : VentId) (s : State) : Host.Outcome State Fault Refusal :=
  plainEvent dt (fun t => t.inRun && t.vents[vent].state == .stalled && due t.vents[vent].coolEnds t.now)
    (evaluate vent) s

/-- CHANNEL_CURRENT_READING (R48 to R51). -/
def execChannelCurrentReading (dt : Micros) (chan : ChanId) (milliamps : Nat) (s : State) :
    Host.Outcome State Fault Refusal :=
  plainEvent dt State.inRun (onDriven chan fun v _ t => takeReading v chan milliamps t) s

end Sys2Proof.Machine
end

