-- ==== Sys2Proof/Machine/LineEvents.lean ====
section
/-! DEFINITION. The commands of the vent line's sending side (chapter 8). -/

namespace Sys2Proof.Machine

/-- HEARTBEAT_EXPIRY (R151): with the bit times the line has been recessive (R147). -/
def execHeartbeatExpiry (dt : Micros) (recessiveBits : Nat) (s : State) : Host.Outcome State Fault Refusal :=
  event dt (fun t => t.inRun && due t.line.heartbeat t.now) (fun _ => { heartbeat := some recessiveBits, area := false })
    startHeartbeat s

/-- RECOVERY_DRAW_SENT (R147). -/
def execRecoveryDrawSent (dt : Micros) (s : State) : Host.Outcome State Fault Refusal :=
  plainEvent dt (fun t => t.inRun && t.line.state == .lost && t.line.recovery.isSome)
    (fun t => t.updLine Line.recovered) s

/-- FRAME_START (R142, R148): with the bit times the line has been recessive. -/
def execFrameStart (dt : Micros) (recessiveBits : Nat) (s : State) : Host.Outcome State Fault Refusal :=
  let t := s.tick dt
  .next (if t.starts recessiveBits then t.updLine Line.start else t)

/-- ARBITRATION_LOST (R143, R147). -/
def execArbitrationLost (dt : Micros) (s : State) : Host.Outcome State Fault Refusal :=
  let t := s.tick dt
  .next (if t.inRun then t.updLine Line.loseArbitration else t)

/-- BIT_ERROR (R144, R145, R147): while the station sends. -/
def execBitError (dt : Micros) (s : State) : Host.Outcome State Fault Refusal :=
  plainEvent dt (fun t => t.inRun && (t.line.sending || t.line.recovery.isSome)) bitError s

/-- FRAME_SENT_WITHOUT_ERROR (R144, R75, R152). -/
def execFrameSentWithoutError (dt : Micros) (s : State) : Host.Outcome State Fault Refusal :=
  plainEvent dt (fun t => t.inRun && t.line.sending && t.line.tx.isSome) frameSent s

/-- MUTE_TIMER_EXPIRY (R145). -/
def execMuteTimerExpiry (dt : Micros) (s : State) : Host.Outcome State Fault Refusal :=
  plainEvent dt (fun t => t.inRun && t.line.state == .mute && due t.line.mute t.now) (fun t => t.updLine Line.unmute) s

/-- STUCK_LINE (R146). -/
def execStuckLine (dt : Micros) (s : State) : Host.Outcome State Fault Refusal := plainEvent dt State.active stuckLine s

end Sys2Proof.Machine
end

