-- ==== Sys2Proof/Machine/PeerEvents.lean ====
section
/-! DEFINITION. The commands of the supply's inrush windows and of the Peer Table's timers (R79, R163 to R166). -/

namespace Sys2Proof.Machine

/-- R79: the inrush windows of a vent's channels that are due end together (log entry 17). -/
def endInrush (v : VentId) (s : State) : State :=
  forChannels v (fun s c =>
    if due s.chans[c].inrush s.now then s.updChan c fun x => { x with inrush := none } else s) s

/-- INRUSH_WINDOW_END (R79). -/
def execInrushWindowEnd (dt : Micros) (chan : ChanId) (s : State) : Host.Outcome State Fault Refusal :=
  plainEvent dt (fun t => t.inRun && due t.chans[chan].inrush t.now)
    (fun t =>
      match t.owner chan with
      | some v => endInrush v t
      | none => t) s

/-- A test of an entry that is present. -/
def State.peerIs (s : State) (n : StationNode) (test : Peer → Bool) : Bool :=
  match s.peers[n] with
  | some p => test p
  | none => false

/-- PEER_INRUSH_EXPIRY (R164). -/
def execPeerInrushExpiry (dt : Micros) (node : StationNode) (s : State) : Host.Outcome State Fault Refusal :=
  plainEvent dt (fun t => t.active && t.peerIs node fun p => due p.inrushEnds t.now) (inrushPasses node) s

/-- PEER_STALE (R165). -/
def execPeerStale (dt : Micros) (node : StationNode) (s : State) : Host.Outcome State Fault Refusal :=
  plainEvent dt (fun t => t.active && t.peerIs node fun p => p.fresh && passed p.heard Config.stale t.now)
    (fun t => reformWeather (goStale node t)) s

/-- PEER_EVICTION (R166). -/
def execPeerEviction (dt : Micros) (node : StationNode) (s : State) : Host.Outcome State Fault Refusal :=
  plainEvent dt (fun t => t.active && t.peerIs node fun p => passed p.heard Config.evict t.now)
    (fun t => reformWeather (evictPeer node t)) s

/-- WEATHER_RECORD_AGE (R163). -/
def execWeatherRecordAge (dt : Micros) (node : StationNode) (s : State) : Host.Outcome State Fault Refusal :=
  plainEvent dt
    (fun t => t.active && t.peerIs node fun p =>
      match p.weather with
      | some w => passed w.heard Config.weatherAge t.now
      | none => false)
    (fun t => reformWeather (dropWeather node t)) s

end Sys2Proof.Machine
end

