-- ==== Sys2Proof/Machine/Operands.lean ====
section
/-! DEFINITION. The operand forms of received frames: the numeric fields clamped before the frame is handed on (R153,
R179). The COMFORT fields and the WEATHER direction are left for their owners. -/

namespace Sys2Proof.Machine

/-- R179: both draws are clamped to 0–1200. -/
def clampDraw (c : DrawContent) : DrawContent := { c with running := clamp 0 1200 c.running, inrush := clamp 0 1200 c.inrush }

/-- R179: the draw is clamped to 0–1200 and the locked vent count to 0–8. -/
def clampStatus (c : StatusContent) : StatusContent :=
  { c with running := clamp 0 1200 c.running, locked := clamp 0 8 c.locked }

/-- R179: the speed is clamped to 0–600. -/
def clampWeather (c : WeatherContent) : WeatherContent := { c with speed := clamp 0 600 c.speed }

end Sys2Proof.Machine
end

