-- ==== Sys2Proof/Machine/Received.lean ====
section
/-! DEFINITION. The commands of received frames (R153 to R156). A valid frame is heard by the Line Controller, then reaches
the Peer Table, then the Fire State Logic (log entry 7). -/

namespace Sys2Proof.Machine

/-- A valid frame is taken in JOIN and RUN (R156). -/
def receive (dt : Micros) (quiet : Nat) (effect : State → State) (s : State) : Host.Outcome State Fault Refusal :=
  plainEvent dt State.active (fun t => effect (hear quiet t)) s

/-- ALARM_RECEIVED (R8, R160). -/
def execAlarmReceived (dt : Micros) (quiet : Nat) (src : StationNode) (zone : Zone) (epoch : Epoch) (s : State) :
    Host.Outcome State Fault Refusal :=
  receive dt quiet (fun t => takeEpoch epoch (only zone) (heardFrom src (Peer.takeAlarm zone epoch) t)) s

/-- RESET_RECEIVED (R10, R160): from a station or from the panel, which has no entry. -/
def execResetReceived (dt : Micros) (quiet : Nat) (src : ResetSender) (epoch : Epoch) (s : State) :
    Host.Outcome State Fault Refusal :=
  receive dt quiet (fun t =>
    match src with
    | .station n => takeEpoch epoch 0 (heardFrom n (Peer.takeReset epoch) t)
    | .panel => takeEpoch epoch 0 t) s

/-- STATUS_RECEIVED (R9, R160). -/
def execStatusReceived (dt : Micros) (quiet : Nat) (src : StationNode) (content : StatusContent) (s : State) :
    Host.Outcome State Fault Refusal :=
  let c := clampStatus content
  receive dt quiet (fun t => takeEpoch c.epoch c.zones (heardFrom src (Peer.takeStatus c) t)) s

/-- DRAW_RECEIVED (R160). -/
def execDrawReceived (dt : Micros) (quiet : Nat) (src : StationNode) (content : DrawContent) (s : State) :
    Host.Outcome State Fault Refusal :=
  receive dt quiet (fun t => heardFrom src (Peer.takeDraw (clampDraw content) t.image.inrushMs t.now) t) s

/-- AREA_RECEIVED (R161). -/
def execAreaReceived (dt : Micros) (quiet : Nat) (src : StationNode) (content : AreaContent) (s : State) :
    Host.Outcome State Fault Refusal :=
  event dt State.active (fun t => { heartbeat := none, area := areaCounts src content t })
    (fun t => heardFrom src (Peer.takeArea content) (hear quiet t)) s

/-- WEATHER_RECEIVED (R163). -/
def execWeatherReceived (dt : Micros) (quiet : Nat) (src : StationNode) (content : WeatherContent) (s : State) :
    Host.Outcome State Fault Refusal :=
  receive dt quiet (heardWeather src (clampWeather content)) s

/-- COMFORT_RECEIVED (R31): from the gateway. -/
def execComfortReceived (dt : Micros) (quiet : Nat) (zones : ZoneSet) (target hold : Nat) (s : State) :
    Host.Outcome State Fault Refusal :=
  receive dt quiet (applyComfort zones target hold) s

/-- OVERRIDE_OPEN (R25, R26): from the panel, as the three others. -/
def execOverrideOpen (dt : Micros) (quiet : Nat) (scope : Scope) (s : State) : Host.Outcome State Fault Refusal :=
  receive dt quiet (applyOverride .open scope) s

/-- OVERRIDE_CLOSE (R25, R26). -/
def execOverrideClose (dt : Micros) (quiet : Nat) (scope : Scope) (s : State) : Host.Outcome State Fault Refusal :=
  receive dt quiet (applyOverride .close scope) s

/-- OVERRIDE_HOLD (R25, R26). -/
def execOverrideHold (dt : Micros) (quiet : Nat) (scope : Scope) (s : State) : Host.Outcome State Fault Refusal :=
  receive dt quiet (applyOverride .hold scope) s

/-- OVERRIDE_RELEASE (R25, R26). -/
def execOverrideRelease (dt : Micros) (quiet : Nat) (scope : Scope) (s : State) : Host.Outcome State Fault Refusal :=
  receive dt quiet (applyOverride .release scope) s

/-- FRAME_DISCARDED (R153): counted wherever frames are received, FALLBACK included (R156). -/
def execFrameDiscarded (dt : Micros) (cause : DiscardCause) (s : State) : Host.Outcome State Fault Refusal :=
  let t := s.tick dt
  .next (if t.receives then t.updLine fun l => l.discard cause else t)

end Sys2Proof.Machine
end

