-- ==== Sys2Proof/Machine/Inputs.lean ====
section
/-! DEFINITION. What the terminals' inputs do (chapter 7) and what the weather inputs do at a source (chapter 6). -/

namespace Sys2Proof.Machine

/-! ### Pins (R126, R133, R134) -/

/-- What a pin's new level means to the function of its terminal: a contact's debounce, the evaluated mains monitor's
timers, the evaluated rain comparator's confirmation. -/
def pinMeans (t : TermId) (active : Bool) (s : State) : State :=
  if (s.fn t).isContact then s.updTerm t fun x => x.atPin active s.now
  else if s.firstTerm .mainsMonitor = some t then s.withMains (s.mains.atPin active s.now)
  else if s.firstTerm .rainSense = some t then comparatorAt active s
  else s

/-- A pin changes its level; in JOIN and RUN the change is evaluated. -/
def movePin (t : TermId) (active : Bool) (s : State) : State :=
  if s.pins[t] = active then s
  else if s.active then pinMeans t active (s.setPin t active)
  else s.setPin t active

/-- R126: the debounced level takes the pin's level and the timer stops. -/
def takeLevel (t : TermId) (s : State) : State :=
  s.updTerm t fun x => { x with debounced := s.pins[t], debounce := none }

/-- R28: a change of key position acts on the used vents. -/
def syncKey (before s : State) : State := if before.keyPos = s.keyPos then s else applyKey s.keyPos s

/-- R127: the assertion or release of a debounced level reaches the owner of its function. -/
def deliver (t : TermId) (before s : State) : State :=
  let asserted := s.terms[t].debounced
  match s.fn t with
  | .callPoint z => if asserted then raiseAlarm z s else s
  | .keyOpen | .keyClose => syncKey before s
  | .manualOpen mask => if asserted then manualPress true mask t s else s
  | .manualClose mask => if asserted then manualPress false mask t s else s
  | .resetButton => if asserted then resetPress s else s
  | .unused | .smokeLoop _ | .rainSense | .windPulse | .windVane | .mainsMonitor | .signalOut | .lampFire => s

/-- R126, R127: the debounce expires. -/
def debounceEnds (t : TermId) (s : State) : State := deliver t s (takeLevel t s)

/-! ### Smoke loops (R129 to R132) -/

/-- R129: the band of a reading in 0.1 mA. -/
def bandOf (tenths : Nat) : Band :=
  if tenths < 20 then .open else if tenths < 120 then .normal else if tenths ≤ 400 then .alarm else .short

/-- The band is OPEN or SHORT (R131). -/
def Band.faulty : Band → Bool
  | .open | .short => true
  | .normal | .alarm => false

/-- R130: the loop state and the confirmation timer after a reading in a band. -/
def Term.follow (x : Term) (b : Band) (now : Micros) : Term :=
  match x.loop with
  | .off => x
  | .watch => if b = .alarm then { x with loop := .confirming, confirm := some (now + Config.confirmation) } else x
  | .confirming | .confirmed => if b = .alarm then x else { x with loop := .watch, confirm := none }

/-- R131: the fault timer runs while the band contradicts the flag. -/
def Term.filterFault (x : Term) (b : Band) (now : Micros) : Term :=
  { x with
    faultTimer :=
      if b.faulty = x.fault then none
      else
        match x.faultTimer with
        | some t => some t
        | none => some (now + Config.loopFault) }

/-- R129 to R131: a reading in a band. -/
def Term.read (x : Term) (b : Band) (now : Micros) : Term := { (x.follow b now).filterFault b now with band := some b }

/-- The terminal is a powered smoke loop in JOIN or RUN (R132). -/
def State.powered (s : State) (t : TermId) : Bool := s.active && (s.fn t).isLoop && s.terms[t].loop != .off

/-- The zone of a smoke loop. -/
def TermFn.loopZone : TermFn → Option Zone
  | .smokeLoop z => some z
  | _ => none

/-- R130: the confirmation completes: CONFIRMED, and a local alarm for the loop's zone. -/
def confirmLoop (t : TermId) (s : State) : State :=
  let u := s.updTerm t fun x => { x with loop := .confirmed, confirm := none }
  match (s.fn t).loopZone with
  | some z => raiseAlarm z u
  | none => u

/-- R131: the fault flag is set or cleared. -/
def Term.turnFault (x : Term) : Term := { x with fault := !x.fault, faultTimer := none }

/-- R130, R132: loop power returns: WATCH, latest band none. -/
def Term.restorePower (x : Term) : Term := { x with loop := .watch, band := none, cycle := none }

/-! ### Mains (R134, R34) -/

/-- R34, R134: the loss timer expires: BATTERY. -/
def loseMains (s : State) : State := removeComfortDemands (s.withMains { s.mains with battery := true, loss := none })

/-- R134: the return timer expires: NORMAL. -/
def regainMains (s : State) : State := s.withMains { s.mains with battery := false, back := none }

/-! ### The weather inputs of a source (R108 to R116) -/

/-- R116: what of a source's own weather the formation reads. -/
def State.ownWeather (s : State) : WindState × Option Nat × Bool := (s.weather.wind, s.weather.dir, s.weather.rain)

/-- R116: the effective weather is formed again when the own wind state, direction or rain state changes (log entry
33). -/
def syncOwnWeather (before s : State) : State := if before.ownWeather = s.ownWeather then s else reformWeather s

/-- An operation of the source side, and the formation its changes cause. -/
def sourceSide (f : State → State) (s : State) : State := syncOwnWeather s (f s)

/-- R111: the dry hold expires. -/
def endDryHold (s : State) : State := s.updWeather fun w => { w with rain := false, dryHold := none }

/-- R108: 2 s have passed since the last accepted pulse. -/
def State.calmDue (s : State) : Bool :=
  match s.weather.lastPulse with
  | some t => decide (t + Config.calm ≤ s.now)
  | none => false

/-- R114: the wind hold timer expires: the state falls one level if the latest speed is low enough. -/
def endWindHold (s : State) : State :=
  let t := s.updWeather fun w => { w with windHold := none }
  let down := t.image.lowered t.weather.wind t.weather.speed
  if down = t.weather.wind then t else t.updWeather fun w => { w with wind := down, windHold := t.holdFrom down }

end Sys2Proof.Machine
end

