-- ==== Sys2Proof/Machine/Terminals.lean ====
section
/-! DEFINITION. The commands of demand expiry and of the terminals (R32, chapter 7). -/

namespace Sys2Proof.Machine

/-- The MANUAL or COMFORT record of the vent has reached its expiry (R32). -/
def State.demandDue (s : State) (v : VentId) (c : TimedClass) : Bool :=
  s.active &&
    match s.demand[v].timed c with
    | some r => due r.expiry s.now
    | none => false

/-- DEMAND_EXPIRY (R32). -/
def execDemandExpiry (dt : Micros) (vent : VentId) (cls : TimedClass) (s : State) : Host.Outcome State Fault Refusal :=
  plainEvent dt (fun t => t.demandDue vent cls) (fun t => t.updRecords vent fun r => r.expire cls) s

/-- CONTACT_PIN_CHANGE (R126). -/
def execContactPinChange (dt : Micros) (term : TermId) (active : Bool) (s : State) : Host.Outcome State Fault Refusal :=
  .next (movePin term active (s.tick dt))

/-- DEBOUNCE_EXPIRY (R126, R127). -/
def execDebounceExpiry (dt : Micros) (term : TermId) (s : State) : Host.Outcome State Fault Refusal :=
  plainEvent dt (fun t => t.active && due t.terms[term].debounce t.now) (debounceEnds term) s

/-- LOOP_READING (R129 to R131). -/
def execLoopReading (dt : Micros) (term : TermId) (tenthsMilliamp : Nat) (s : State) : Host.Outcome State Fault Refusal :=
  let t := s.tick dt
  .next (if t.powered term then t.updTerm term fun x => x.read (bandOf tenthsMilliamp) t.now else t)

/-- CONFIRMATION_EXPIRY (R130). -/
def execConfirmationExpiry (dt : Micros) (term : TermId) (s : State) : Host.Outcome State Fault Refusal :=
  plainEvent dt
    (fun t => t.active && t.terms[term].loop == .confirming && due t.terms[term].confirm t.now) (confirmLoop term) s

/-- LOOP_FAULT_TIMER_EXPIRY (R131). -/
def execLoopFaultTimerExpiry (dt : Micros) (term : TermId) (s : State) : Host.Outcome State Fault Refusal :=
  plainEvent dt (fun t => t.active && due t.terms[term].faultTimer t.now) (fun t => t.updTerm term Term.turnFault) s

/-- POWER_CYCLE_EXPIRY (R132). -/
def execPowerCycleExpiry (dt : Micros) (term : TermId) (s : State) : Host.Outcome State Fault Refusal :=
  let t := s.tick dt
  .next (if t.active && due t.terms[term].cycle t.now then t.updTerm term Term.restorePower else t)

/-- MAINS_PIN_CHANGE (R134). -/
def execMainsPinChange (dt : Micros) (term : TermId) (active : Bool) (s : State) : Host.Outcome State Fault Refusal :=
  .next (movePin term active (s.tick dt))

/-- MAINS_LOSS_TIMER_EXPIRY (R134, R34). -/
def execMainsLossTimerExpiry (dt : Micros) (s : State) : Host.Outcome State Fault Refusal :=
  plainEvent dt (fun t => t.active && due t.mains.loss t.now) loseMains s

/-- MAINS_RETURN_TIMER_EXPIRY (R134). -/
def execMainsReturnTimerExpiry (dt : Micros) (s : State) : Host.Outcome State Fault Refusal :=
  plainEvent dt (fun t => t.active && due t.mains.back t.now) regainMains s

end Sys2Proof.Machine
end

