-- ==== Sys2Proof/Machine/WeatherSource.lean ====
section
/-! DEFINITION. The commands of the weather inputs and timers (chapter 6). -/

namespace Sys2Proof.Machine

/-- RAIN_COMPARATOR_CHANGE (R111, R133): wet is the active level. -/
def execRainComparatorChange (dt : Micros) (term : TermId) (wet : Bool) (s : State) : Host.Outcome State Fault Refusal :=
  .next (movePin term wet (s.tick dt))

/-- RAIN_CONFIRMATION_EXPIRY (R111). -/
def execRainConfirmationExpiry (dt : Micros) (s : State) : Host.Outcome State Fault Refusal :=
  plainEvent dt (fun t => t.active && due t.weather.rainConfirm t.now) (sourceSide confirmRain) s

/-- DRY_HOLD_EXPIRY (R111). -/
def execDryHoldExpiry (dt : Micros) (s : State) : Host.Outcome State Fault Refusal :=
  plainEvent dt (fun t => t.active && due t.weather.dryHold t.now) (sourceSide endDryHold) s

/-- ANEMOMETER_PULSE (R108, R109, R113): of the evaluated WIND_PULSE terminal (R124). -/
def execAnemometerPulse (dt : Micros) (term : TermId) (s : State) : Host.Outcome State Fault Refusal :=
  plainEvent dt (fun t => t.active && t.firstTerm .windPulse == some term) (sourceSide takePulse) s

/-- CALM_TIMEOUT (R108). -/
def execCalmTimeout (dt : Micros) (s : State) : Host.Outcome State Fault Refusal :=
  plainEvent dt (fun t => t.active && t.calmDue) (sourceSide calmDown) s

/-- VANE_READING (R110): of the evaluated WIND_VANE terminal (R124). -/
def execVaneReading (dt : Micros) (term : TermId) (reading : Nat) (s : State) : Host.Outcome State Fault Refusal :=
  plainEvent dt (fun t => t.active && t.firstTerm .windVane == some term) (sourceSide (takeVane reading)) s

/-- WIND_HOLD_EXPIRY (R114). -/
def execWindHoldExpiry (dt : Micros) (s : State) : Host.Outcome State Fault Refusal :=
  plainEvent dt (fun t => t.active && due t.weather.windHold t.now) (sourceSide endWindHold) s

/-- PERSISTENCE_EXPIRY (R119). -/
def execPersistenceExpiry (dt : Micros) (vent : VentId) (s : State) : Host.Outcome State Fault Refusal :=
  plainEvent dt (fun t => t.active && due t.windward[vent].persist t.now) (persistenceEnds vent) s

end Sys2Proof.Machine
end

