-- ==== Sys2Proof/Machine/Dispatch.lean ====
section
/-! DEFINITION. The meaning of each command, by constructor. -/

namespace Sys2Proof.Machine

def exec (i : Instr) (s : State) : Host.Outcome State Fault Refusal :=
  match i with
  | .powerOnReset dt => Sys2Proof.Machine.execPowerOnReset dt s
  | .resetPinReset dt => Sys2Proof.Machine.execResetPinReset dt s
  | .chipResetEnd dt => Sys2Proof.Machine.execChipResetEnd dt s
  | .memoryNoAcknowledge dt => Sys2Proof.Machine.execMemoryNoAcknowledge dt s
  | .readAttemptTimeout dt => Sys2Proof.Machine.execReadAttemptTimeout dt s
  | .imageReadComplete dt bytes => Sys2Proof.Machine.execImageReadComplete dt bytes s
  | .joinTimerExpiry dt => Sys2Proof.Machine.execJoinTimerExpiry dt s
  | .alarmReceived dt quiet src zone epoch => Sys2Proof.Machine.execAlarmReceived dt quiet src zone epoch s
  | .resetReceived dt quiet src epoch => Sys2Proof.Machine.execResetReceived dt quiet src epoch s
  | .statusReceived dt quiet src content => Sys2Proof.Machine.execStatusReceived dt quiet src content s
  | .drawReceived dt quiet src content => Sys2Proof.Machine.execDrawReceived dt quiet src content s
  | .areaReceived dt quiet src content => Sys2Proof.Machine.execAreaReceived dt quiet src content s
  | .weatherReceived dt quiet src content => Sys2Proof.Machine.execWeatherReceived dt quiet src content s
  | .comfortReceived dt quiet zones target hold => Sys2Proof.Machine.execComfortReceived dt quiet zones target hold s
  | .overrideOpen dt quiet scope => Sys2Proof.Machine.execOverrideOpen dt quiet scope s
  | .overrideClose dt quiet scope => Sys2Proof.Machine.execOverrideClose dt quiet scope s
  | .overrideHold dt quiet scope => Sys2Proof.Machine.execOverrideHold dt quiet scope s
  | .overrideRelease dt quiet scope => Sys2Proof.Machine.execOverrideRelease dt quiet scope s
  | .frameDiscarded dt cause => Sys2Proof.Machine.execFrameDiscarded dt cause s
  | .demandExpiry dt vent cls => Sys2Proof.Machine.execDemandExpiry dt vent cls s
  | .contactPinChange dt term active => Sys2Proof.Machine.execContactPinChange dt term active s
  | .debounceExpiry dt term => Sys2Proof.Machine.execDebounceExpiry dt term s
  | .loopReading dt term tenthsMilliamp => Sys2Proof.Machine.execLoopReading dt term tenthsMilliamp s
  | .confirmationExpiry dt term => Sys2Proof.Machine.execConfirmationExpiry dt term s
  | .loopFaultTimerExpiry dt term => Sys2Proof.Machine.execLoopFaultTimerExpiry dt term s
  | .powerCycleExpiry dt term => Sys2Proof.Machine.execPowerCycleExpiry dt term s
  | .mainsPinChange dt term active => Sys2Proof.Machine.execMainsPinChange dt term active s
  | .mainsLossTimerExpiry dt => Sys2Proof.Machine.execMainsLossTimerExpiry dt s
  | .mainsReturnTimerExpiry dt => Sys2Proof.Machine.execMainsReturnTimerExpiry dt s
  | .rainComparatorChange dt term wet => Sys2Proof.Machine.execRainComparatorChange dt term wet s
  | .rainConfirmationExpiry dt => Sys2Proof.Machine.execRainConfirmationExpiry dt s
  | .dryHoldExpiry dt => Sys2Proof.Machine.execDryHoldExpiry dt s
  | .anemometerPulse dt term => Sys2Proof.Machine.execAnemometerPulse dt term s
  | .calmTimeout dt => Sys2Proof.Machine.execCalmTimeout dt s
  | .vaneReading dt term reading => Sys2Proof.Machine.execVaneReading dt term reading s
  | .windHoldExpiry dt => Sys2Proof.Machine.execWindHoldExpiry dt s
  | .persistenceExpiry dt vent => Sys2Proof.Machine.execPersistenceExpiry dt vent s
  | .heartbeatExpiry dt recessiveBits => Sys2Proof.Machine.execHeartbeatExpiry dt recessiveBits s
  | .recoveryDrawSent dt => Sys2Proof.Machine.execRecoveryDrawSent dt s
  | .frameStart dt recessiveBits => Sys2Proof.Machine.execFrameStart dt recessiveBits s
  | .arbitrationLost dt => Sys2Proof.Machine.execArbitrationLost dt s
  | .bitError dt => Sys2Proof.Machine.execBitError dt s
  | .frameSentWithoutError dt => Sys2Proof.Machine.execFrameSentWithoutError dt s
  | .muteTimerExpiry dt => Sys2Proof.Machine.execMuteTimerExpiry dt s
  | .stuckLine dt => Sys2Proof.Machine.execStuckLine dt s
  | .inrushWindowEnd dt chan => Sys2Proof.Machine.execInrushWindowEnd dt chan s
  | .peerInrushExpiry dt node => Sys2Proof.Machine.execPeerInrushExpiry dt node s
  | .peerStale dt node => Sys2Proof.Machine.execPeerStale dt node s
  | .peerEviction dt node => Sys2Proof.Machine.execPeerEviction dt node s
  | .weatherRecordAge dt node => Sys2Proof.Machine.execWeatherRecordAge dt node s
  | .stopTimeReached dt vent => Sys2Proof.Machine.execStopTimeReached dt vent s
  | .startWindowEnd dt chan => Sys2Proof.Machine.execStartWindowEnd dt chan s
  | .endFilterExpiry dt chan => Sys2Proof.Machine.execEndFilterExpiry dt chan s
  | .stallFilterExpiry dt chan => Sys2Proof.Machine.execStallFilterExpiry dt chan s
  | .shortDetected dt chan => Sys2Proof.Machine.execShortDetected dt chan s
  | .runLimitReached dt vent => Sys2Proof.Machine.execRunLimitReached dt vent s
  | .dwellExpiry dt vent => Sys2Proof.Machine.execDwellExpiry dt vent s
  | .coolDownExpiry dt vent => Sys2Proof.Machine.execCoolDownExpiry dt vent s
  | .channelCurrentReading dt chan milliamps => Sys2Proof.Machine.execChannelCurrentReading dt chan milliamps s

end Sys2Proof.Machine
end

