-- ==== Sys2Proof/Machine/Formats.lean ====
section
/-! DEFINITION. Frames on the vent line: layouts (R179), check byte (R180), bit insertion and the reading of the
line (R141), validation (R153, R155), and the command that a received frame is. -/

namespace Sys2Proof.Machine

/-- A frame with its inserted bits removed (R179). -/
structure RawFrame where
  cls     : BitVec 2
  kind    : BitVec 3
  src     : BitVec 5
  len     : BitVec 4
  payload : List Byte
  check   : Byte
  deriving DecidableEq, Repr

/-! ### The check byte (R180) -/

/-- The bits of a field, most significant first. -/
def msbFirst {n : Nat} (x : BitVec n) : List Bool := (List.range n).map fun i => x.getLsbD (n - 1 - i)

/-- R180: one bit enters the register. -/
def checkStep (reg : Byte) (bit : Bool) : Byte := if reg.getLsbD 7 == bit then reg <<< 1 else (reg <<< 1) ^^^ 7

/-- R180: the register after a byte sequence, from 0. -/
def checkOf (bytes : List Byte) : Byte := (bytes.flatMap msbFirst).foldl checkStep 0

/-- R180: the byte sequence the check byte is formed over. -/
def RawFrame.checked (r : RawFrame) : List Byte :=
  let head : BitVec 16 := (r.cls ++ r.kind ++ r.src ++ r.len ++ (0 : BitVec 2))
  head.extractLsb' 8 8 :: head.extractLsb' 0 8 :: r.payload

/-- R180: the check byte of a frame. -/
def RawFrame.checkByte (r : RawFrame) : Byte := checkOf r.checked

/-! ### Bits on the line (R141, R179) -/

/-- R179: the bits of a frame after its start bit, before insertion. -/
def RawFrame.body (r : RawFrame) : List Bool :=
  msbFirst r.cls ++ msbFirst r.kind ++ msbFirst r.src ++ msbFirst r.len ++ r.payload.flatMap msbFirst ++ msbFirst r.check

/-- R141: after every five consecutive bits of one level the other level is inserted. `last` and `run` are the level and
the length of the run so far, the start bit and the inserted bits counted (log entry 26). -/
def insertBits (last : Bool) (run : Nat) : List Bool → List Bool
  | [] => []
  | b :: bs =>
    let n := if b = last then run + 1 else 1
    if n = 5 then b :: (!b) :: insertBits (!b) 1 bs else b :: insertBits b n bs

/-- R141: what six equal bits in a row say: recessive, the sender abandoned its frame; dominant, a violation. -/
def sixEqual (level : Bool) : DiscardCause := if level then .abandoned else .violation

/-- R141: the receiver removes the bit after every five of one level. It gives the bits read before six equal bits in a
row, and what those say, if they came. -/
def removeBits (last : Bool) (run : Nat) : List Bool → List Bool × Option DiscardCause
  | [] => ([], none)
  | b :: bs =>
    if run = 5 then if b = last then ([], some (sixEqual b)) else removeBits b 1 bs
    else
      let r := removeBits b (if b = last then run + 1 else 1) bs
      (b :: r.1, r.2)

/-- R141, R179: a whole frame on the line, the dominant start bit first. -/
def RawFrame.lineBits (r : RawFrame) : List Bool := false :: insertBits false 1 r.body

/-! ### Composing (R179) -/

/-- A two-byte field, the more significant byte first. -/
def twoBytes (x : Nat) : List Byte := [BitVec.ofNat 8 (x / 256), BitVec.ofNat 8 x]

/-- R179: the code of a pending class. -/
def pendingCode (c : Option DemandClass) : Nat :=
  match c with
  | none => 6
  | some k => classRank k

/-- R179: the wind state codes. -/
def windCode : WindState → Nat
  | .calm => 0
  | .windy => 1
  | .storm => 2

/-- R179: the restart cause codes. -/
def causeCode : ResetKind → Nat
  | .powerOn => 0
  | .resetPin => 1

/-- A byte of eight flags, bit 7 first. -/
def flagByte (b7 b6 b5 b4 b3 b2 b1 b0 : Bool) : Byte :=
  BitVec.ofNat 8 (b7.toNat * 128 + b6.toNat * 64 + b5.toNat * 32 + b4.toNat * 16 + b3.toNat * 8 + b2.toNat * 4 +
    b1.toNat * 2 + b0.toNat)

/-- R179: the payload of a frame the station sends. -/
def Frame.payload : Frame → List Byte
  | .alarm z e => [BitVec.ofNat 8 z.val, e]
  | .reset e => [e]
  | .draw c => twoBytes c.running ++ twoBytes c.inrush ++ [BitVec.ofNat 8 (pendingCode c.pending)]
  | .status c =>
    [flagByte c.fireMode c.battery c.lineDegraded c.cause.isSome c.terminalFault c.nodeClash c.areaShort c.posUnknown,
      c.zones, c.epoch] ++ twoBytes c.running ++
      [BitVec.ofNat 8 (pendingCode c.pending), BitVec.ofNat 8 c.locked, BitVec.ofNat 8 c.rxErrors] ++
      (match c.cause with
        | none => []
        | some k => [BitVec.ofNat 8 (causeCode k)])
  | .area c =>
    BitVec.ofNat 8 c.zone.val :: (twoBytes c.primary ++ twoBytes c.offer ++ twoBytes c.called ++ twoBytes c.achieved ++
      [flagByte false false false false false c.sat c.unknown c.short])
  | .weather c =>
    twoBytes c.speed ++ twoBytes c.dir ++
      [BitVec.ofNat 8 (windCode c.wind + c.rain.toNat * 4 + c.vaneFault.toNat * 8)]

/-- R179, R180: the frame as the station with a node number sends it. -/
def Frame.raw (node : Nat) (f : Frame) : RawFrame :=
  let r : RawFrame :=
    { cls := BitVec.ofNat 2 f.cls, kind := BitVec.ofNat 3 f.kind, src := BitVec.ofNat 5 node,
      len := BitVec.ofNat 4 f.payload.length, payload := f.payload, check := 0 }
  { r with check := r.checkByte }

/-- The bits the station sends: its frame in transmission while it is on the line, or its recovery DRAW (R147). -/
def State.lineBits (s : State) : Option (List Bool) :=
  let frame := if s.line.sending then s.line.tx.map Queued.frame else s.line.recovery.map Frame.draw
  frame.map fun f => (f.raw s.image.node).lineBits

/-! ### Reading the line (R141, R179) -/

/-- R179: the value of a field sent most significant bit first. -/
def fieldOf (n : Nat) (bits : List Bool) : BitVec n := BitVec.ofNat n (bits.foldl (fun x b => 2 * x + b.toNat) 0)

/-- R179: the bytes of a payload. -/
def bytesOf : Nat → List Bool → List Byte
  | 0, _ => []
  | n + 1, bits => fieldOf 8 (bits.take 8) :: bytesOf n (bits.drop 8)

/-- R141, R179: the fields of a frame, read from its bits after the start bit with the inserted bits removed; none while
the end that its payload length gives has not been received. Bits past the check byte are no part of the frame. -/
def RawFrame.ofBody (bits : List Bool) : Option RawFrame :=
  let len := fieldOf 4 ((bits.drop 10).take 4)
  let payload := bits.drop 14
  if 22 + 8 * len.toNat ≤ bits.length then
    some { cls := fieldOf 2 (bits.take 2), kind := fieldOf 3 ((bits.drop 2).take 3), src := fieldOf 5 ((bits.drop 5).take 5),
           len := len, payload := bytesOf len.toNat payload, check := fieldOf 8 ((payload.drop (8 * len.toNat)).take 8) }
  else none

/-- R141, R153: what the line shows from a start bit on: a frame received to the end of its check byte, a frame abandoned
or violated before that end, or none while neither has come. -/
def readLine : List Bool → Option (Except DiscardCause RawFrame)
  | false :: bits =>
    let r := removeBits false 1 bits
    match RawFrame.ofBody r.1 with
    | some f => some (.ok f)
    | none => r.2.map .error
  | _ => none

/-! ### Validation (R153, R155) -/

/-- A valid frame by kind (R155). -/
inductive Valid where
  | alarm (src : StationNode) (z : Zone) (e : Epoch)
  | reset (src : ResetSender) (e : Epoch)
  | override (a : Action) (scope : Scope)
  | draw (src : StationNode) (c : DrawContent)
  | status (src : StationNode) (c : StatusContent)
  | area (src : StationNode) (c : AreaContent)
  | weather (src : StationNode) (c : WeatherContent)
  | comfort (zones : ZoneSet) (target hold : Nat)
  deriving DecidableEq, Repr

/-- R155: the class of a kind code. -/
def classOfKind (k : BitVec 3) : Nat :=
  match k.toNat with
  | 0 | 1 | 2 => 0
  | 3 => 1
  | _ => 2

/-- R155, R179: the sender is a station. -/
def stationOf (x : BitVec 5) : Option StationNode := if h : x.toNat < 30 then some ⟨x.toNat, h⟩ else none

/-- R153: a zone field above 7 discards the frame. -/
def zoneField (b : Byte) : Except DiscardCause Zone :=
  if h : b.toNat < 8 then .ok ⟨b.toNat, h⟩ else .error .zoneField

/-- R179: a pending class code; 7 to 255 name no code. -/
def pendingField (b : Byte) : Except DiscardCause (Option DemandClass) :=
  match b.toNat with
  | 0 => .ok (some .default)
  | 1 => .ok (some .comfort)
  | 2 => .ok (some .manual)
  | 3 => .ok (some .weather)
  | 4 => .ok (some .fire)
  | 5 => .ok (some .brigade)
  | 6 => .ok none
  | _ => .error .codeField

/-- R179: a wind state code; 3 names none. -/
def windField (b : Byte) : Except DiscardCause WindState :=
  match b.toNat % 4 with
  | 0 => .ok .calm
  | 1 => .ok .windy
  | 2 => .ok .storm
  | _ => .error .codeField

/-- R179: a restart cause; a value above 1 is clamped to 1. -/
def causeField (b : Byte) : ResetKind := if b = 0 then .powerOn else .resetPin

/-- R179: the scope of an OVERRIDE. -/
def scopeField (b n v : Byte) : Except DiscardCause Scope :=
  match b.toNat / 16 with
  | 0 => .ok .all
  | 1 => (zoneField n).map .zone
  | 2 => .ok (.station n.toNat)
  | 3 => .ok (.vent n.toNat v.toNat)
  | _ => .error .codeField

/-- R179: the action of an OVERRIDE. -/
def actionField (b : Byte) : Except DiscardCause Action :=
  match b.toNat % 16 with
  | 0 => .ok .open
  | 1 => .ok .close
  | 2 => .ok .hold
  | 3 => .ok .release
  | _ => .error .codeField

/-- The value of a two-byte field. -/
def pair (hi lo : Byte) : Nat := hi.toNat * 256 + lo.toNat

/-- R179: the STATUS fields of the first eight bytes. -/
def statusOf (flags zones epoch d1 d0 pending locked errs : Byte) (cause : Option ResetKind) :
    Except DiscardCause StatusContent :=
  (pendingField pending).map fun p =>
    { fireMode := flags.getLsbD 7, battery := flags.getLsbD 6, lineDegraded := flags.getLsbD 5,
      terminalFault := flags.getLsbD 3, nodeClash := flags.getLsbD 2, areaShort := flags.getLsbD 1,
      posUnknown := flags.getLsbD 0, zones := zones, epoch := epoch, running := pair d1 d0, pending := p,
      locked := locked.toNat, rxErrors := errs.toNat, cause := cause }

/-- R155: the sender of a kind that only stations send. -/
def fromStation {α : Type} (x : BitVec 5) (f : StationNode → Except DiscardCause α) : Except DiscardCause α :=
  match stationOf x with
  | some n => f n
  | none => .error .sender

/-- R155: the senders of RESET. -/
def resetSender (x : BitVec 5) : Except DiscardCause ResetSender :=
  match stationOf x with
  | some n => .ok (.station n)
  | none => if x = 31 then .ok .panel else .error .sender

/-- R153, R179: the layouts of the kinds; a payload of another length has an undefined length. -/
def RawFrame.content (r : RawFrame) : Except DiscardCause Valid :=
  match r.kind.toNat, r.payload with
  | 0, [z, e] => fromStation r.src fun n => (zoneField z).map fun z => .alarm n z e
  | 1, [e] => (resetSender r.src).map fun n => .reset n e
  | 2, [b, n, v] =>
    if r.src = 31 then
      match actionField b, scopeField b n v with
      | .ok a, .ok sc => .ok (.override a sc)
      | .error c, _ => .error c
      | _, .error c => .error c
    else .error .sender
  | 3, [r1, r0, i1, i0, p] =>
    fromStation r.src fun n => (pendingField p).map fun p =>
      .draw n { running := pair r1 r0, inrush := pair i1 i0, pending := p }
  | 4, [f, z, e, d1, d0, p, l, x] =>
    if f.getLsbD 4 then .error .length
    else fromStation r.src fun n => (statusOf f z e d1 d0 p l x none).map fun c => .status n c
  | 4, [f, z, e, d1, d0, p, l, x, k] =>
    if f.getLsbD 4 then
      fromStation r.src fun n => (statusOf f z e d1 d0 p l x (some (causeField k))).map fun c => .status n c
    else .error .length
  | 5, [z, p1, p0, o1, o0, c1, c0, a1, a0, f] =>
    fromStation r.src fun n => (zoneField z).map fun z =>
      .area n { zone := z, primary := pair p1 p0, offer := pair o1 o0, called := pair c1 c0, achieved := pair a1 a0,
                sat := f.getLsbD 2, unknown := f.getLsbD 1, short := f.getLsbD 0 }
  | 6, [s1, s0, d1, d0, f] =>
    fromStation r.src fun n => (windField f).map fun w =>
      .weather n { speed := pair s1 s0, dir := pair d1 d0, wind := w, rain := f.getLsbD 2, vaneFault := f.getLsbD 3 }
  | 7, [z, t1, t0, h] => if r.src = 30 then .ok (.comfort z (pair t1 t0) h.toNat) else .error .sender
  | _, _ => .error .length

/-- R153: a frame received to the end of its check byte is valid, or discarded with a cause. -/
def RawFrame.validate (r : RawFrame) : Except DiscardCause Valid :=
  if r.checkByte ≠ r.check then .error .checkByte
  else if r.payload.length ≠ r.len.toNat then .error .length
  else if r.cls.toNat ≠ classOfKind r.kind then .error .classOfKind
  else r.content

/-- The command that a valid frame is. -/
def Valid.command (dt : Micros) (quiet : Nat) : Valid → Instr
  | .alarm n z e => .alarmReceived dt quiet n z e
  | .reset n e => .resetReceived dt quiet n e
  | .override .open sc => .overrideOpen dt quiet sc
  | .override .close sc => .overrideClose dt quiet sc
  | .override .hold sc => .overrideHold dt quiet sc
  | .override .release sc => .overrideRelease dt quiet sc
  | .draw n c => .drawReceived dt quiet n c
  | .status n c => .statusReceived dt quiet n c
  | .area n c => .areaReceived dt quiet n c
  | .weather n c => .weatherReceived dt quiet n c
  | .comfort z t h => .comfortReceived dt quiet z t h

/-- R153 to R155: the command that a frame received to the end of its check byte is. -/
def RawFrame.command (dt : Micros) (quiet : Nat) (r : RawFrame) : Instr :=
  match r.validate with
  | .ok v => v.command dt quiet
  | .error c => .frameDiscarded dt c

/-- R141, R153 to R155: the command that the bits on the line are, once a frame has ended, been abandoned or been
violated. -/
def commandOfLine (dt : Micros) (quiet : Nat) (line : List Bool) : Option Instr :=
  (readLine line).map fun r =>
    match r with
    | .ok f => f.command dt quiet
    | .error c => .frameDiscarded dt c

/-- What a station's own frame is to a receiver that takes it valid. -/
def Frame.asValid (n : StationNode) : Frame → Valid
  | .alarm z e => .alarm n z e
  | .reset e => .reset (.station n) e
  | .draw c => .draw n c
  | .status c => .status n c
  | .area c => .area n c
  | .weather c => .weather n c

/-- The numeric fields of a frame fit their places (R179). -/
def Frame.fits : Frame → Bool
  | .alarm _ _ | .reset _ => true
  | .draw c => c.wellFormed
  | .status c => c.wellFormed
  | .area c => c.wellFormed
  | .weather c => c.wellFormed

end Sys2Proof.Machine
end

