-- ==== Sys2Proof/Safety.lean ====
section
/-! DEFINITION. What counts as a sound state, in the terms the statements use: the laws of the device that every event
keeps, the part of the state that the completion of an event leaves alone, and what an event does to a run, to the
effective weather, to the figures and calls of the balance and to the queue; and what a raw frame is read as. -/

namespace Sys2Proof.Machine

/-! ### What the completion of an event leaves alone -/

/-- The records of a vent that no completion writes (R25 to R34). -/
def Records.standing (r : Records) : Records := { r with fire := none, weather := none }

/-- The Line Controller's items but the waiting frames and a recovery DRAW just composed. -/
def Line.standing (l : Line) : Line := { l with waiting := [], recovery := none }

/-- The part of the state that only a command's own effect changes: what the other blocks' answers to it may change
stands at reset values here (the Drive Unit, the scheduler and the balance, FIRE and WEATHER records, waiting frames,
outputs). -/
def State.sources (s : State) : State :=
  { s with
    demand := Vector.ofFn fun v : Fin 8 => s.demand[v].standing
    vents := State.reset.vents
    chans := State.reset.chans
    retention := State.reset.retention
    supply := Supply.reset
    area := Area.reset
    line := s.line.standing
    outputs := State.reset.outputs }

/-- The bit times of quiet before a valid received frame, for the commands that are one. -/
def quietBefore : Instr → Option Nat
  | .alarmReceived _ q _ _ _ | .resetReceived _ q _ _ | .statusReceived _ q _ _ | .drawReceived _ q _ _ => some q
  | .areaReceived _ q _ _ | .weatherReceived _ q _ _ | .comfortReceived _ q _ _ _ => some q
  | .overrideOpen _ q _ | .overrideClose _ q _ | .overrideHold _ q _ | .overrideRelease _ q _ => some q
  | _ => none

/-- The time since the command before, which every command carries (log entry 1). -/
def timeOf : Instr → Micros
  | .powerOnReset dt | .resetPinReset dt | .chipResetEnd dt => dt
  | .memoryNoAcknowledge dt | .readAttemptTimeout dt | .imageReadComplete dt _ => dt
  | .joinTimerExpiry dt | .alarmReceived dt _ _ _ _ | .resetReceived dt _ _ _ => dt
  | .statusReceived dt _ _ _ | .drawReceived dt _ _ _ | .areaReceived dt _ _ _ => dt
  | .weatherReceived dt _ _ _ | .comfortReceived dt _ _ _ _ | .overrideOpen dt _ _ => dt
  | .overrideClose dt _ _ | .overrideHold dt _ _ | .overrideRelease dt _ _ => dt
  | .frameDiscarded dt _ | .demandExpiry dt _ _ | .contactPinChange dt _ _ => dt
  | .debounceExpiry dt _ | .loopReading dt _ _ | .confirmationExpiry dt _ => dt
  | .loopFaultTimerExpiry dt _ | .powerCycleExpiry dt _ | .mainsPinChange dt _ _ => dt
  | .mainsLossTimerExpiry dt | .mainsReturnTimerExpiry dt | .rainComparatorChange dt _ _ => dt
  | .rainConfirmationExpiry dt | .dryHoldExpiry dt | .anemometerPulse dt _ => dt
  | .calmTimeout dt | .vaneReading dt _ _ | .windHoldExpiry dt => dt
  | .persistenceExpiry dt _ | .heartbeatExpiry dt _ | .recoveryDrawSent dt => dt
  | .frameStart dt _ | .arbitrationLost dt | .bitError dt => dt
  | .frameSentWithoutError dt | .muteTimerExpiry dt | .stuckLine dt => dt
  | .inrushWindowEnd dt _ | .peerInrushExpiry dt _ | .peerStale dt _ => dt
  | .peerEviction dt _ | .weatherRecordAge dt _ | .stopTimeReached dt _ => dt
  | .startWindowEnd dt _ | .endFilterExpiry dt _ | .stallFilterExpiry dt _ => dt
  | .shortDetected dt _ | .runLimitReached dt _ | .dwellExpiry dt _ => dt
  | .coolDownExpiry dt _ | .channelCurrentReading dt _ _ => dt

/-- The command is, or ends, a chip reset. -/
def isReset : Instr → Bool
  | .powerOnReset _ | .resetPinReset _ | .chipResetEnd _ => true
  | _ => false

/-! ### Laws of the device -/

/-- R148: the queue holds at most 6 frames, never two waiting frames of one kind and subject; R150: outside RUN and
outside LINE_OK it holds none. -/
def State.QueueLaw (s : State) : Prop :=
  s.line.held ≤ 6 ∧
    s.line.waiting.Pairwise (fun a b => a.frame.kind ≠ b.frame.kind ∨ a.frame.subject ≠ b.frame.subject) ∧
    (s.boot.station ≠ .run ∨ s.line.state ≠ .ok → s.line.waiting = [] ∧ s.line.tx = none)

/-- A position that is UNKNOWN or in 0–1000. -/
def inTravel (p : Position) : Prop := ∀ x, p = some x → x ≤ 1000

/-- A target that is HOLD or in 0–1000. -/
def Target.inTravel (t : Target) : Prop := ∀ x, t = .pos x → x ≤ 1000

/-- A record, if present, has a target in 0–1000 or HOLD. -/
def recordInTravel (r : Option Record) : Prop := ∀ x, r = some x → x.target.inTravel

/-- R44, R21: every known estimate, run start position and retained position, and every target, lies in 0–1000. -/
def State.PositionLaw (s : State) : Prop :=
  (∀ c : ChanId, inTravel s.chans[c].estimate ∧ inTravel s.chans[c].startPos ∧ inTravel s.retention[c]) ∧
    ∀ v : VentId, s.vents[v].target.inTravel ∧ recordInTravel s.demand[v].brigade ∧ recordInTravel s.demand[v].fire ∧
      recordInTravel s.demand[v].weather ∧ recordInTravel s.demand[v].manual ∧ recordInTravel s.demand[v].comfort

/-- R171: no channel is named by two used vents. -/
def Image.ChannelsApart (k : Image) : Prop :=
  ∀ v w : VentId, v ≠ w → ∀ c ∈ k.vents[v].channels, c ∉ k.vents[w].channels

/-- R43, R57, R59, R60: a driven channel belongs to a vent running in the direction it is driven, so no vent drives two
ways at once and a vent at rest, LOCKED among them, drives nothing; outside RUN nothing is driven and no start is in
progress; the vent of a start in progress is ANNOUNCED. -/
def State.DriveLaw (s : State) : Prop :=
  s.image.ChannelsApart ∧
    (∀ (c : ChanId) (d : Dir), s.chans[c].driven = some d →
      ∃ v : VentId, c ∈ s.channels v ∧ s.vents[v].state = d.runState) ∧
    (s.boot.station ≠ .run → (∀ c : ChanId, s.chans[c].driven = none) ∧ s.supply.start = none) ∧
    ∀ x, s.supply.start = some x → s.vents[x.vent].state = .announced

/-- R61: in JOIN and RUN the retention memory holds a known position for exactly the channels of vents at rest in IDLE
with a known estimate: a channel that no used vent names has none. -/
def State.RetentionLaw (s : State) : Prop :=
  s.active = true →
    (∀ (v : VentId) (c : ChanId), c ∈ s.channels v →
      s.retention[c] = if s.vents[v].state = .idle then s.chans[c].estimate else none) ∧
    ∀ c : ChanId, (∀ v : VentId, c ∉ s.channels v) → s.retention[c] = none

/-- R71: the channels the station drives, those of a start in progress added, never exceed the configured maximum. -/
def State.MotorLaw (s : State) : Prop :=
  s.runningCount ≤ s.image.maxMotors ∧
    ∀ x, s.supply.start = some x → s.runningCount + (s.channels x.vent).length ≤ s.image.maxMotors

/-- R24: what the Drive Unit holds for a vent is its effective demand. -/
def State.holdsDemand (s : State) (v : VentId) : Prop := (s.vents[v].target, s.vents[v].cls) = s.effective v

/-- R16, R35: the FIRE record of a vent is the one the fire pattern gives. -/
def State.firePatternHolds (s : State) (v : VentId) : Prop := s.demand[v].fire = s.patternRecord v

/-- R29, R121: a vent carries a WEATHER record, closing it, exactly while its flags and the effective weather ask for
one. -/
def State.weatherRecordHolds (s : State) (v : VentId) : Prop :=
  s.demand[v].weather = if s.weatherCloses v then some { target := .pos 0, origin := .weather, expiry := none } else none

/-- R21, R20, R122: outside JOIN and RUN there is no alarm, no rain and no storm to act on, and no demand record. -/
def State.atRestOutsideService (s : State) : Prop :=
  s.active = false → s.fire.zones = 0 ∧ s.weather.effRain = false ∧ s.weather.effWind = .unknown ∧
    ∀ v : VentId, s.demand[v] = Records.reset ∧ s.vents[v].target = .pos 0 ∧ s.vents[v].cls = .default

/-- R34: while the Supply State is BATTERY, no MANUAL or COMFORT record exists. -/
def State.batteryHolds (s : State) : Prop :=
  s.mains.battery = true → ∀ v : VentId, s.demand[v].manual = none ∧ s.demand[v].comfort = none

/-- R16, R24, R29, R34, R35, R121: the FIRE and WEATHER records follow the fire pattern and the weather, BATTERY leaves
no MANUAL and no COMFORT record, and the Drive Unit holds every used vent's effective demand. -/
def State.ArbiterLaw (s : State) : Prop :=
  s.atRestOutsideService ∧ s.batteryHolds ∧
    ∀ v : VentId, s.firePatternHolds v ∧ s.weatherRecordHolds v ∧ (s.used v = true → s.holdsDemand v)

/-- R1: from the start of RUN onward the epoch is known. -/
def State.EpochLaw (s : State) : Prop := s.boot.station = .run → s.fire.known = true

/-- R158, R168: the Peer Table has no entry for the station's own node, and none at all outside JOIN and RUN. -/
def State.PeerLaw (s : State) : Prop :=
  (∀ n : StationNode, n.val = s.image.node → s.peers[n] = none) ∧
    (s.active = false → ∀ n : StationNode, s.peers[n] = none)

/-- R43 to R45: while a channel is driven its stored estimate is its run start position, and a stop time belongs to a
run to a stop, whose channels are all known; the direction of a running vent is that of its last run. R40: a run that a
commit check began has the direction of the last run before it, where that was not none. -/
def State.RunLaw (s : State) : Prop :=
  (∀ c : ChanId, s.chans[c].driven.isSome = true → s.chans[c].startPos = s.chans[c].estimate) ∧
    (∀ v : VentId, s.vents[v].stopTime.isSome = true →
      s.vents[v].state.running = true ∧ s.vents[v].runKind = some .toStop ∧
        ∀ c ∈ s.channels v, s.chans[c].estimate.isSome = true) ∧
    ∀ (v : VentId) (d : Dir), s.vents[v].state = d.runState →
      s.vents[v].lastDir = some d ∧ ∀ e, s.vents[v].committed = some (some e) → e = d

/-- R73, R74: a frame held with a start's number is a DRAW, and while that start is in progress the DRAW's inrush field
holds the vent's start draw; numbers still to be given are held nowhere. -/
def State.AnnounceLaw (s : State) : Prop :=
  (∀ q ∈ s.line.frames, ∀ id, q.ann = some id → id < s.supply.nextId ∧
    ∃ k, q.frame = .draw k ∧ ∀ x, s.supply.start = some x → x.id = id → s.startDraw x.vent ≤ k.inrush) ∧
    ∀ x, s.supply.start = some x → x.id < s.supply.nextId

/-- R85, R86, R92, R98, R100: the balance zone is the lead zone, and outside fire mode, and outside JOIN and RUN, every
item stands at its reset value; the figures lie in 0–65535 and the own take does not exceed the own offer; a called vent is a used RESERVE of the
balance zone, neither windward nor LOCKED. -/
def State.AreaLaw (s : State) : Prop :=
  s.area.balance = s.leadZone ∧ (s.active = false ∨ s.area.balance = none → s.area = Area.reset) ∧
    (s.area.primary ≤ 65535 ∧ s.area.offer ≤ 65535 ∧ s.area.called ≤ 65535 ∧ s.area.achieved ≤ 65535 ∧
      s.area.take ≤ s.area.offer) ∧
    ∀ (v : VentId) (z : Zone), memberOf v s.area.calledSet = true → s.area.balance = some z →
      s.used v = true ∧ (s.cfg v).role = .reserve ∧ memberOf z (s.cfg v).mask = true ∧ s.windward[v].flag = false ∧
        s.vents[v].state ≠ .locked

/-- R136, R137, R138, R175: the level every terminal is driven to. -/
def State.levelOf (s : State) (t : TermId) : Prop :=
  match s.boot.station with
  | .inReset _ | .loading => False
  | .fallback => t = 5
  | .join | .run =>
    (s.fn t = .lampFire ∧ s.fireMode = true) ∨
      (s.fn t = .signalOut ∧ ∃ i : Fin 9, s.image.signals.getLsbD i = true ∧ s.conditions[i.val]? = some true)

/-- R136 to R138: every output stands at its level. -/
def State.OutputLaw (s : State) : Prop := ∀ t : TermId, s.outputs[t] = true ↔ s.levelOf t

/-! ### What an event does, in the terms of the statements -/

/-- R116: node `n` gives a candidate of this wind state, direction and rain: the station itself if it is a source, a peer
whose entry is FRESH and holds a weather record. -/
def State.gives (s : State) (n : StationNode) (w : WindState) (d : Option Nat) (r : Bool) : Prop :=
  if n.val = s.image.node then s.isSource = true ∧ s.weather.wind = w ∧ s.weather.dir = d ∧ s.weather.rain = r
  else ∃ p x, s.peers[n] = some p ∧ p.fresh = true ∧ p.weather = some x ∧ x.wind = w ∧ x.dir = d ∧ x.rain = r

/-- R116: the effective rain is that of any candidate; the effective wind state and direction are those of the candidate of
the lowest node, and UNKNOWN and invalid with none. -/
def State.weatherFormed (s : State) : Prop :=
  (s.weather.effRain = true ↔ ∃ n w d, s.gives n w d true) ∧
    (∀ n w d r, s.gives n w d r → (∀ m : StationNode, m < n → ∀ x e y, ¬ s.gives m x e y) →
      s.weather.selected = some n ∧ s.weather.effWind = .known w ∧ s.weather.effDir = d) ∧
    ((∀ n w d r, ¬ s.gives n w d r) →
      s.weather.selected = none ∧ s.weather.effWind = .unknown ∧ s.weather.effDir = none)

/-- Section 0.8: m is the quotient a / b rounded to the nearest integer, a half to the even one. -/
def roundsTo (a b m : Nat) : Prop :=
  2 * a ≤ 2 * m * b + b ∧ 2 * m * b ≤ 2 * a + b ∧ (2 * a = 2 * m * b + b ∨ 2 * m * b = 2 * a + b → m % 2 = 0)

/-- R87: the exact sum of A × Cd × p over the vents counted, an UNKNOWN term as 0 (R88). -/
def State.exactArea (s : State) (counted : VentId → Bool) (p : VentId → Position) : Nat :=
  sumOver fun v => if counted v then (s.cfg v).area * (s.cfg v).cd * (p v).getD 0 else 0

/-- R92: a vent is eligible for the balance zone z, condition by condition. -/
def State.mayServe (s : State) (z : Zone) (v : VentId) : Bool :=
  s.used v && (s.cfg v).role == .reserve && memberOf z (s.cfg v).mask && !s.windward[v].flag &&
    s.vents[v].state != .locked && s.vents[v].state != .stalled && s.demand[v].brigade.isNone

/-- R87 to R98: the items of the balance are those of the state as it stands, for the balance zone z: the four figures, each
summed exactly and rounded once, SAT and UNKNOWN; and the own take and SHORT of the walk over the counted stations. -/
def State.figuresHold (s : State) (z : Zone) : Prop :=
  let planned : VentId → Position := fun v =>
    if s.vents[v].state = .stalled ∨ s.vents[v].state = .locked then s.ventPos v
    else
      match s.vents[v].target with
      | .pos p => some p
      | .hold => s.ventPos v
  let primary := fun v : VentId => s.used v && (s.cfg v).role == .primary && (s.cfg v).home == z
  let counted := fun v : VentId => primary v && !s.windward[v].flag
  let called := fun v : VentId => memberOf v s.area.calledSet
  (∃ p o c a,
    roundsTo (s.exactArea counted planned) 256000 p ∧ s.area.primary = min 65535 p ∧
    roundsTo (s.exactArea (s.mayServe z) fun _ => some 1000) 256000 o ∧ s.area.offer = min 65535 o ∧
    roundsTo (s.exactArea called planned) 256000 c ∧ s.area.called = min 65535 c ∧
    roundsTo (s.exactArea (fun v => primary v || called v) s.ventPos) 256000 a ∧ s.area.achieved = min 65535 a ∧
    (s.area.sat = true ↔ 65535 < p ∨ 65535 < o ∨ 65535 < c ∨ 65535 < a)) ∧
  (s.area.unknown = true ↔ ∃ v : VentId, (counted v = true ∨ called v = true) ∧ planned v = none ∨
    (primary v = true ∨ called v = true) ∧ s.ventPos v = none) ∧
  let l := s.shares z s.area.primary s.area.offer
  let w := walk s.image.node (s.image.required[z] - (l.map Share.primary).sum) l
  s.area.take = w.1 ∧ (s.area.short = true ↔ 0 < w.2)

/-- R99 to R101: what a recompute for the balance zone z made of the calls, between the state s an event found and the state t
it left. No called vent left. A vent newly called is eligible, every eligible vent before it by rank and index is called, and
those called already or before it fell short of the own take. With a take above 0 the eligible called vents reach it, or every
eligible vent is called. Every called vent has FIRE 1000, handed to the Drive Unit where no BRIGADE record lies above it. -/
def State.callsMade (s t : State) (z : Zone) : Prop :=
  let already := fun v : VentId => memberOf v s.area.calledSet = true
  let called := fun v : VentId => memberOf v t.area.calledSet = true
  let ahead := fun w v : VentId => (t.cfg w).rank < (t.cfg v).rank ∨ (t.cfg w).rank = (t.cfg v).rank ∧ w < v
  let area := fun v : VentId => (t.cfg v).area * (t.cfg v).cd * 1000
  (∀ v, already v → called v) ∧
  (∀ v, called v → ¬ already v → t.mayServe z v = true ∧ (∀ w, t.mayServe z w = true → ahead w v → called w) ∧
    (sumOver fun w => if t.mayServe z w = true ∧ called w ∧ (already w ∨ ahead w v) then area w else 0) <
      t.area.take * 256000) ∧
  (0 < t.area.take → t.area.take * 256000 ≤ (sumOver fun v => if t.mayServe z v = true ∧ called v then area v else 0) ∨
    ∀ v, t.mayServe z v = true → called v) ∧
  ∀ v, called v → t.demand[v].fire = some { target := .pos 1000, origin := .firePattern, expiry := none } ∧
    (t.demand[v].brigade = none → t.vents[v].target = .pos 1000 ∧ t.vents[v].cls = .fire)

/-- R44: the estimate of a channel of the vent `dt` from now: the stored one at rest; while it is driven, UNKNOWN from an
UNKNOWN run start position, else the run start position moved on with the time since the run start, the travel times in
tenths of a second (log entry 11: the floor of the exact fraction). -/
def State.reached (s : State) (dt : Micros) (v : VentId) (c : ChanId) : Position :=
  let ran := s.now + dt - s.vents[v].runStart
  match s.chans[c].driven, s.chans[c].startPos with
  | none, _ => s.chans[c].estimate
  | some _, none => none
  | some .opening, some p => some (min 1000 (p + ran / ((s.cfg v).openTime * 100)))
  | some .closing, some p => some (p - ran / ((s.cfg v).closeTime * 100))

/-- R54: the event stopped every channel of the vent at the estimate R44 gives. -/
def State.stoppedIn (s t : State) (dt : Micros) (v : VentId) : Prop :=
  ∀ c ∈ s.channels v, t.chans[c].driven = none ∧ t.chans[c].estimate = s.reached dt v c

/-- R55: the event left the vent's run going, as a run of kind `k`, its channels as they were. -/
def State.goesOnIn (s t : State) (v : VentId) (k : RunKind) : Prop :=
  t.vents[v].state = s.vents[v].state ∧ t.vents[v].runKind = some k ∧ t.vents[v].runStart = s.vents[v].runStart ∧
    t.vents[v].lastDir = s.vents[v].lastDir ∧ ∀ c ∈ s.channels v, t.chans[c] = s.chans[c]

/-- R56: the event stopped the vent's run and put it in DWELL for 300 ms, its last direction kept. -/
def State.dwellsIn (s t : State) (dt : Micros) (v : VentId) : Prop :=
  s.stoppedIn t dt v ∧ t.vents[v].state = .dwell ∧ t.vents[v].dwellEnds = some (s.now + dt + 300000) ∧
    t.vents[v].lastDir = s.vents[v].lastDir

/-- R38: the intermediate-stop count with one stop more. -/
def State.stopCounted (s : State) (v : VentId) : Nat :=
  if s.vents[v].stops < 8 then s.vents[v].stops + 1 else s.vents[v].stops

/-- R68: the vent is in the waiting set and startable. -/
def State.waitsStartable (s : State) (v : VentId) : Prop :=
  s.used v = true ∧ s.vents[v].state = .waitSupply ∧ s.startDraw v ≤ s.image.feedLimit ∧
    (s.channels v).length ≤ s.image.maxMotors

/-- R152, R64, R69, R135: a STATUS shows every item as it stands in the state. -/
def State.shownBy (s : State) (c : StatusContent) : Prop :=
  let asserted := fun f : TermFn => ∃ k : TermId, s.fn k = f ∧ s.terms[k].debounced = true
  (c.fireMode = true ↔ s.fire.zones ≠ 0) ∧ c.battery = s.mains.battery ∧ c.lineDegraded = s.line.latch ∧
    (c.terminalFault = true ↔ (∃ (k : TermId) (z : Zone), s.fn k = .smokeLoop z ∧ s.terms[k].fault = true) ∨
      s.weather.vaneFault = true ∨ asserted .keyOpen ∧ asserted .keyClose) ∧
    c.nodeClash = s.line.clash ∧ c.areaShort = s.area.short ∧
    (c.posUnknown = true ↔ ∃ v : VentId, s.used v = true ∧ ∃ e ∈ s.channels v, s.reached 0 v e = none) ∧
    c.zones = s.fire.zones ∧ c.epoch = s.fire.epoch ∧ c.running = s.ownRunning ∧
    (c.pending = none → ∀ v, ¬ s.waitsStartable v) ∧
    (∀ k, c.pending = some k → (∃ v : VentId, s.waitsStartable v ∧ s.vents[v].cls = k) ∧
      ∀ v : VentId, s.waitsStartable v → classRank s.vents[v].cls ≤ classRank k) ∧
    c.locked = (eight.filter fun v => s.used v && s.vents[v].state == .locked).length ∧
    c.rxErrors = s.line.rxErrors ∧ c.cause = s.line.cause

/-- R180: the check byte over the byte sequence of a frame, in numbers: a register from 0, each byte bit 7 first, shifted left
by one and combined with 7 where its top bit differs from the bit taken. -/
def RawFrame.formedCheck (r : RawFrame) : Nat :=
  let node := r.src.toNat
  let head := [r.cls.toNat * 64 + r.kind.toNat * 8 + node / 4, node % 4 * 64 + r.len.toNat * 4]
  let bits := (head ++ r.payload.map BitVec.toNat).flatMap fun b => [7, 6, 5, 4, 3, 2, 1, 0].map b.testBit
  bits.foldl (fun reg bit => (2 * reg % 256) ^^^ (if decide (128 ≤ reg) = bit then 0 else 7)) 0

/-- R153, R155, R179: the ground on which a frame received to the end of its check byte is discarded for a cause. -/
def RawFrame.wrong (r : RawFrame) (c : DiscardCause) : Prop :=
  let kind := r.kind.toNat
  let node := r.src.toNat
  let byte := fun i : Nat => (r.payload.getD i 0).toNat
  match c with
  | .abandoned | .violation => False
  | .checkByte => r.check.toNat ≠ r.formedCheck
  | .length => r.payload.length ≠ r.len.toNat ∨
      [2, 1, 3, 5, if (byte 0).testBit 4 then 9 else 8, 10, 5, 4][kind]? ≠ some r.len.toNat
  | .classOfKind => [0, 0, 0, 1, 2, 2, 2, 2][kind]? ≠ some r.cls.toNat
  | .sender =>
      (kind = 0 ∨ 3 ≤ kind ∧ kind ≤ 6) ∧ 30 ≤ node ∨ kind = 1 ∧ node = 30 ∨ kind = 2 ∧ node ≠ 31 ∨ kind = 7 ∧ node ≠ 30
  | .zoneField => (kind = 0 ∨ kind = 5) ∧ 7 < byte 0 ∨ kind = 2 ∧ byte 0 / 16 = 1 ∧ 7 < byte 1
  | .codeField => kind = 2 ∧ (3 < byte 0 / 16 ∨ 3 < byte 0 % 16) ∨ kind = 3 ∧ 6 < byte 4 ∨ kind = 4 ∧ 6 < byte 5 ∨
      kind = 6 ∧ byte 4 % 4 = 3

/-- R179: the command that a frame with nothing wrong is, field by field of its kind's layout. -/
def RawFrame.reads (r : RawFrame) (dt : Micros) (quiet : Nat) (i : Instr) : Prop :=
  let field := fun n : Nat => r.payload.getD n 0
  let byte := fun n : Nat => (field n).toNat
  let word := fun n : Nat => byte n * 256 + byte (n + 1)
  let bit := fun n b : Nat => (byte n).testBit b
  let pending := fun (n : Nat) (p : Option DemandClass) =>
    [some .default, some .comfort, some .manual, some .weather, some .fire, some .brigade, none][byte n]? = some p
  match r.kind.toNat with
  | 0 => ∃ (n : StationNode) (z : Zone), n.val = r.src.toNat ∧ z.val = byte 0 ∧ i = .alarmReceived dt quiet n z (field 1)
  | 1 => r.src = 31 ∧ i = .resetReceived dt quiet .panel (field 0) ∨
      ∃ n : StationNode, n.val = r.src.toNat ∧ i = .resetReceived dt quiet (.station n) (field 0)
  | 2 => ∃ sc : Scope,
      (byte 0 / 16 = 0 ∧ sc = .all ∨ byte 0 / 16 = 1 ∧ (∃ z : Zone, z.val = byte 1 ∧ sc = .zone z) ∨
        byte 0 / 16 = 2 ∧ sc = .station (byte 1) ∨ byte 0 / 16 = 3 ∧ sc = .vent (byte 1) (byte 2)) ∧
      (byte 0 % 16 = 0 ∧ i = .overrideOpen dt quiet sc ∨ byte 0 % 16 = 1 ∧ i = .overrideClose dt quiet sc ∨
        byte 0 % 16 = 2 ∧ i = .overrideHold dt quiet sc ∨ byte 0 % 16 = 3 ∧ i = .overrideRelease dt quiet sc)
  | 3 => ∃ (n : StationNode) (p : Option DemandClass), n.val = r.src.toNat ∧ pending 4 p ∧
      i = .drawReceived dt quiet n { running := word 0, inrush := word 2, pending := p }
  | 4 => ∃ (n : StationNode) (p : Option DemandClass), n.val = r.src.toNat ∧ pending 5 p ∧
      i = .statusReceived dt quiet n
        { fireMode := bit 0 7, battery := bit 0 6, lineDegraded := bit 0 5, terminalFault := bit 0 3, nodeClash := bit 0 2,
          areaShort := bit 0 1, posUnknown := bit 0 0, zones := field 1, epoch := field 2, running := word 3, pending := p,
          locked := byte 6, rxErrors := byte 7,
          cause := if bit 0 4 then some (if byte 8 = 0 then .powerOn else .resetPin) else none }
  | 5 => ∃ (n : StationNode) (z : Zone), n.val = r.src.toNat ∧ z.val = byte 0 ∧
      i = .areaReceived dt quiet n
        { zone := z, primary := word 1, offer := word 3, called := word 5, achieved := word 7, sat := bit 9 2,
          unknown := bit 9 1, short := bit 9 0 }
  | 6 => ∃ (n : StationNode) (w : WindState), n.val = r.src.toNat ∧
      [WindState.calm, .windy, .storm][byte 4 % 4]? = some w ∧
      i = .weatherReceived dt quiet n
        { speed := word 0, dir := word 2, wind := w, rain := bit 4 2, vaneFault := bit 4 3 }
  | _ => i = .comfortReceived dt quiet (field 0) (word 1) (byte 3)

/-- A DRAW with the station's current content waits in the queue (R74). -/
def State.drawWaits (s : State) : Prop := ∃ q ∈ s.line.waiting, q.frame = .draw s.drawContent

/-- No call of a reserve alters the vent's demand in the event: fire mode does not hold, or the records follow the fire
pattern and the vent is no RESERVE (R16, R101). -/
def State.uncallable (s : State) (v : VentId) : Prop :=
  s.fireMode = false ∨ s.ArbiterLaw ∧ (s.cfg v).role ≠ .reserve

end Sys2Proof.Machine
end

