-- ==== Sys2Proof/Certificates/Slice0/Obligations.lean ====
section
/-! DEFINITION. The statements for the provers. Where a statement says `t.sources = { (s.tick dt).sources with … }`, it says
that of everything an event's completion leaves alone only the fields named have changed (Safety.lean, `sources`). -/

open Sys2Proof Sys2Proof.Machine

/-! ### The machine and its laws -/

/-- A step takes the command at the front of the queue; the block idles on an empty queue (log entry 3, the model's
choice). -/
def Obligations.StepTakesFront : Prop :=
  (∀ (c : Instr) (rest : List Instr) (s : State), step (s.withPending (c :: rest)) = exec c (s.withPending rest)) ∧
    ∀ s : State, s.pending = [] → step s = .next s

/-- The laws of Safety.lean hold in State.reset. (That it is the state right after a POWER_ON reset has ended, the pins'
levels in it, and the values the spec gives no reset value for are the model's choices, log entries 4, 5, 28.) -/
def Obligations.LawsAtReset : Prop :=
  State.reset.QueueLaw ∧ State.reset.PositionLaw ∧ State.reset.DriveLaw ∧ State.reset.RetentionLaw ∧
    State.reset.MotorLaw ∧ State.reset.ArbiterLaw ∧ State.reset.OutputLaw ∧ State.reset.PeerLaw ∧ State.reset.RunLaw ∧
    State.reset.AnnounceLaw ∧ State.reset.AreaLaw ∧ State.reset.EpochLaw

/-- R148, R150: the queue law is kept by every step. -/
def Obligations.QueueLawKept : Prop :=
  ∀ s t : State, s.QueueLaw → step s = .next t → t.QueueLaw

/-- R44: positions and targets stay in 0–1000. -/
def Obligations.PositionLawKept : Prop :=
  ∀ s t : State, s.PositionLaw → step s = .next t → t.PositionLaw

/-- R43, R57, R59, R60: channels are driven only as their vent's RUN state says, and only in RUN. -/
def Obligations.DriveLawKept : Prop :=
  ∀ s t : State, s.DriveLaw → step s = .next t → t.DriveLaw

/-- R61: the retention memory holds the positions of the vents at rest, and nothing for a channel no used vent names. -/
def Obligations.RetentionLawKept : Prop :=
  ∀ s t : State, s.DriveLaw → s.RetentionLaw → step s = .next t → t.RetentionLaw

/-- R71: the driven channels never exceed the maximum motors. -/
def Obligations.MotorLawKept : Prop :=
  ∀ s t : State, s.DriveLaw → s.MotorLaw → step s = .next t → t.MotorLaw

/-- R16, R24, R29, R34, R35, R121: the FIRE and WEATHER records follow their causes, BATTERY leaves no MANUAL and no
COMFORT record, and the Drive Unit follows the records; so while the alarmed-zone set is non-empty every used vent's
class is BRIGADE or FIRE. R16, section 1.7: the FIRE record of every used vent then has the target of the fire pattern's
table, a row a line; unused vents, and every vent outside fire mode, have none. -/
def Obligations.ArbiterLawKept : Prop :=
  ∀ s t : State, s.ArbiterLaw → step s = .next t → t.ArbiterLaw ∧
    (t.fireMode = true → ∀ v : VentId, t.used v = true →
      ((t.effective v).2 = .brigade ∨ (t.effective v).2 = .fire) ∧ t.vents[v].cls = (t.effective v).2) ∧
    ∀ v : VentId,
      let role := (t.cfg v).role
      let home := memberOf (t.cfg v).home t.fire.zones = true
      let windward := t.windward[v].flag = true
      let leads := fun z : Zone => memberOf z t.fire.zones = true ∧ ∀ y : Zone, y < z → memberOf y t.fire.zones = false
      let serves := (∃ z, leads z ∧ memberOf z (t.cfg v).mask = true) ∧ memberOf v t.area.calledSet = true ∧ ¬ windward
      let admits := ∃ z : Zone, memberOf z (t.cfg v).mask = true ∧ memberOf z t.fire.zones = true
      (t.fire.zones = 0 ∨ t.used v = false → t.demand[v].fire = none) ∧
      (t.fire.zones ≠ 0 → t.used v = true → ∃ p,
        t.demand[v].fire = some { target := .pos p, origin := .firePattern, expiry := none } ∧
        (role = .primary → home → ¬ windward → p = 1000) ∧
        (role = .primary → home → windward → p = 0) ∧
        (role = .primary → ¬ home → p = 0) ∧
        (role = .reserve → serves → p = 1000) ∧
        (role = .reserve → ¬ serves → p = 0) ∧
        (role = .inlet → admits → p = 1000) ∧
        (role = .inlet → ¬ admits → p = 0) ∧
        (role = .none → p = 0))

/-- R136, R137, R138, R175: the outputs follow their conditions in every event. -/
def Obligations.OutputLawKept : Prop :=
  ∀ s t : State, s.OutputLaw → step s = .next t → t.OutputLaw

/-- R158, R168: no entry for the station's own node, and an empty table outside JOIN and RUN, are kept by every step. -/
def Obligations.PeerLawKept : Prop :=
  ∀ s t : State, s.PeerLaw → step s = .next t → t.PeerLaw

/-- R44, R46: an estimate becomes UNKNOWN only at a run timeout of its vent, and an UNKNOWN one becomes known only by an
anchor of its channel, at an end (outside chip resets and LOADING). (What the run law says of a run that a commit check began
concerns a field of the model's own, log entry 35.) -/
def Obligations.EstimatesLatch : Prop :=
  ∀ (i : Instr) (s t : State), s.DriveLaw → s.RunLaw → exec i s = .next t → t.RunLaw ∧
    (isReset i = false → s.boot.station ≠ .loading → ∀ c : ChanId,
      (s.chans[c].estimate.isSome = true → t.chans[c].estimate = none →
        ∃ dt v, i = .runLimitReached dt v ∧ c ∈ s.channels v) ∧
      (∀ x, s.chans[c].estimate = none → t.chans[c].estimate = some x →
        (x = 0 ∨ x = 1000) ∧ s.chans[c].driven.isSome = true ∧
          ∃ dt, i = .endFilterExpiry dt c ∨ i = .startWindowEnd dt c))

/-- R57: the direction of a vent's last run is given up only by the expiry of a DWELL that has lasted its 300 ms, or with a
start that a commit check gave and a HOLD withdrew at the same moment, so that no run was made (R83; what that moment is, is
the model's choice, log entry 35); and a run that begins is in that direction: so a reversal takes a DWELL (outside chip
resets and LOADING). -/
def Obligations.ReversalsDwell : Prop :=
  ∀ (i : Instr) (s t : State), s.DriveLaw → s.ArbiterLaw → s.RunLaw → isReset i = false → s.boot.station ≠ .loading →
    exec i s = .next t → ∀ v : VentId,
      (∀ d, s.vents[v].lastDir = some d → t.vents[v].lastDir = some d ∨
        (s.vents[v].state = .dwell ∧ ∃ dt e, i = .dwellExpiry dt v ∧ s.vents[v].dwellEnds = some e ∧ e ≤ s.now + dt) ∨
        s.vents[v].state.running = true ∧ s.vents[v].committed = some none ∧ s.vents[v].runStart = t.now ∧
          t.vents[v].state = .idle ∧ t.vents[v].target = .hold ∧ t.vents[v].lastDir = none) ∧
      (s.vents[v].state = .dwell → t.vents[v].state = .dwell → t.vents[v].dwellEnds = s.vents[v].dwellEnds) ∧
      (s.vents[v].state ≠ .dwell → t.vents[v].state = .dwell → t.vents[v].dwellEnds = some (t.now + 300000)) ∧
      ∀ d : Dir, t.vents[v].state = d.runState → s.vents[v].state ≠ d.runState → t.vents[v].lastDir = some d

/-- R27, R59: a LOCKED vent stays LOCKED with its fault kind until a newer epoch is applied or a brigade OPEN or CLOSE
arrives for it, from the panel or the key (outside chip resets and LOADING; R1: in RUN the epoch is known). -/
def Obligations.LocksHold : Prop :=
  ∀ (i : Instr) (s t : State), s.DriveLaw → s.EpochLaw → isReset i = false → s.boot.station ≠ .loading → exec i s = .next t →
    ∀ v : VentId, s.vents[v].state = .locked →
      t.vents[v].state = .locked ∧ t.vents[v].fault = s.vents[v].fault ∨
        s.fire.known = true ∧ t.fire.epoch ≠ s.fire.epoch ∨
        s.used v = true ∧ (∃ r, t.demand[v].brigade = some r ∧ r.target ≠ .hold) ∧
          ((∃ dt q sc, i = .overrideOpen dt q sc ∨ i = .overrideClose dt q sc) ∨
            ∃ dt k, i = .debounceExpiry dt k ∧ (s.fn k = .keyOpen ∨ s.fn k = .keyClose))

/-- R73 to R76: while the line state is LINE_OK a motor starts only in the event in which a DRAW of the station has been
sent whose inrush field holds the start draw of the motor's vent. -/
def Obligations.StartsAnnounced : Prop :=
  ∀ (i : Instr) (s t : State), s.DriveLaw → s.AnnounceLaw → exec i s = .next t → t.AnnounceLaw ∧
    (s.line.state = .ok → t.line.state = .ok → ∀ c : ChanId, s.chans[c].driven = none → t.chans[c].driven ≠ none →
      ∃ dt q k v, i = .frameSentWithoutError dt ∧ s.line.tx = some q ∧ q.frame = .draw k ∧ c ∈ s.channels v ∧
        s.startDraw v ≤ k.inrush)

/-- R100: while the lead zone and the applied epoch are unchanged the called reserve set loses a vent only when it becomes
windward or LOCKED; the laws of the balance are kept. -/
def Obligations.CallsRatchet : Prop :=
  ∀ (i : Instr) (s t : State), s.AreaLaw → exec i s = .next t → t.AreaLaw ∧
    (isReset i = false → t.leadZone = s.leadZone → t.fire.epoch = s.fire.epoch →
      ∀ v : VentId, memberOf v s.area.calledSet = true → memberOf v t.area.calledSet = true ∨
        s.windward[v].flag = false ∧ t.windward[v].flag = true ∨
        s.vents[v].state ≠ .locked ∧ t.vents[v].state = .locked)

/-- R1: every step keeps the epoch known in RUN. R3, R4, R6: outside chip resets the applied epoch, once known, changes
only to a newer one, and the alarmed-zone set loses members only when it does. -/
def Obligations.AlarmsLatch : Prop :=
  (∀ s t : State, s.EpochLaw → step s = .next t → t.EpochLaw) ∧
    ∀ (c : Instr) (s t : State), isReset c = false → exec c s = .next t →
      (s.fire.known = true → t.fire.known = true ∧
        (t.fire.epoch = s.fire.epoch ∨
          1 ≤ (t.fire.epoch - s.fire.epoch).toNat ∧ (t.fire.epoch - s.fire.epoch).toNat ≤ 127)) ∧
      (s.fire.known = true ∧ t.fire.epoch = s.fire.epoch ∨ s.fire.known = false ∧ s.boot.station = .join →
        ∀ z : Zone, memberOf z s.fire.zones = true → memberOf z t.fire.zones = true)

/-! ### Formats -/

/-- R153, R155, R179, R180: every frame a station composes, its fields in range, is valid at a receiver, with its sender
and its fields as sent; its bits on the line are the command of that frame. Any frame received to the end of its check byte is
the command of its fields: with a wrong check byte, a length not defined for its kind, another class than its kind's, a sender
not allowed, a zone above 7 or a code that names none it is FRAME_DISCARDED, for a cause that applies (which one of several is
the model's choice, log entry 18); with nothing wrong it is read by its kind's layout, OVERRIDE and COMFORT among them, the
bits marked ignored left unread. -/
def Obligations.FrameRoundTrip : Prop :=
  (∀ (n : StationNode) (f : Frame), f.fits = true → (f.raw n.val).validate = .ok (f.asValid n) ∧
    ∀ (dt : Micros) (quiet : Nat),
      commandOfLine dt quiet (f.raw n.val).lineBits = some ((f.asValid n).command dt quiet)) ∧
    ∀ (dt : Micros) (quiet : Nat) (r : RawFrame),
      (r.payload.length = r.len.toNat → commandOfLine dt quiet r.lineBits = some (r.command dt quiet)) ∧
      ((∃ c, r.wrong c) → ∃ c, r.wrong c ∧ r.command dt quiet = .frameDiscarded dt c) ∧
      ((∀ c, ¬ r.wrong c) → r.reads dt quiet (r.command dt quiet))

/-- R141, R179: the receiver's removal of inserted bits gives the sender's bits back, and no six equal bits stand in a row
in a frame on the line; a receiver that sees none reads on, six recessive ones say abandoned and six dominant ones a
violation; and every frame reads as its fields. (That the start bit and the inserted bits count into the runs is the
model's reading, log entry 26.) -/
def Obligations.BitsInserted : Prop :=
  (∀ l : List Bool, removeBits false 1 (insertBits false 1 l) = (l, none)) ∧
    (∀ (r : RawFrame) (b : Bool), ¬ List.replicate 6 b <:+: r.lineBits) ∧
    (∀ bits : List Bool,
      ((removeBits false 1 bits).2 = none ↔ ∀ b : Bool, ¬ List.replicate 6 b <:+: false :: bits) ∧
      ∀ c, (removeBits false 1 bits).2 = some c →
        c = .abandoned ∧ List.replicate 6 true <:+: bits ∨ c = .violation ∧ List.replicate 6 false <:+: false :: bits) ∧
    ∀ r : RawFrame, r.payload.length = r.len.toNat → readLine r.lineBits = some (.ok r)

/-- R112, R172: whatever bytes are read, the clamped fields lie in their ranges and the thresholds in order. R181: each
field stands at its offset, a two-byte one with its more significant byte first, and is read as it stands where it lies in
its range. R171: the images refused. -/
def Obligations.ImageClamped : Prop :=
  ∀ b : List Byte,
    let k := readImage b
    let byte := fun i : Nat => (b.getD i 0).toNat
    let word := fun i : Nat => byte i * 256 + byte (i + 1)
    let within := fun lo hi x : Nat => max lo (min hi x)
    (10 ≤ k.feedLimit ∧ k.feedLimit ≤ 2000) ∧ (1 ≤ k.maxMotors ∧ k.maxMotors ≤ 8) ∧
      (100 ≤ k.inrushMs ∧ k.inrushMs ≤ 2000) ∧ k.manualHold ≤ 240 ∧ (30 ≤ k.alpha ∧ k.alpha ≤ 90) ∧
      (1 ≤ k.anemometer ∧ k.anemometer ≤ 5000) ∧ k.vaneOffset ≤ 359 ∧
      (10 ≤ k.windyOn ∧ k.windyOn ≤ k.stormOn ∧ k.stormOn ≤ 600 ∧ k.windyOff < k.windyOn ∧ k.stormOff < k.stormOn) ∧
      (k.windyHold ≤ 3600 ∧ k.stormHold ≤ 3600) ∧
      (∀ v : VentId, k.vents[v].used = true →
        (1 ≤ k.vents[v].area ∧ k.vents[v].area ≤ 4000) ∧ (1 ≤ k.vents[v].cd ∧ k.vents[v].cd ≤ 255) ∧
          (1 ≤ k.vents[v].openTime ∧ k.vents[v].openTime ≤ 1200) ∧
          (1 ≤ k.vents[v].closeTime ∧ k.vents[v].closeTime ≤ 1200) ∧
          (1 ≤ k.vents[v].running ∧ k.vents[v].running ≤ 150) ∧ (1 ≤ k.vents[v].inrush ∧ k.vents[v].inrush ≤ 150) ∧
          (1 ≤ k.vents[v].stall ∧ k.vents[v].stall ≤ 150) ∧ ∀ f, k.vents[v].facing = some f → f ≤ 359) ∧
      -- the station record, the requirement table and the fields at the end
      (k.node = byte 2 ∧ k.feedLimit = within 10 2000 (word 3) ∧ k.maxMotors = within 1 8 (byte 5) ∧
        k.inrushMs = within 100 2000 (word 6) ∧ k.manualHold = min 240 (byte 8) ∧ k.alpha = within 30 90 (byte 9) ∧
        k.windyOn = within 10 600 (word 10) ∧ k.windyOff = min (min 599 (word 12)) (k.windyOn - 1) ∧
        k.stormOn = max k.windyOn (within 10 600 (word 14)) ∧ k.stormOff = min (min 599 (word 16)) (k.stormOn - 1) ∧
        k.windyHold = min 3600 (word 18) ∧ k.stormHold = min 3600 (word 20) ∧
        (∀ z : Zone, k.required[z] = word (22 + 2 * z.val)) ∧
        (∀ i : Fin 9, k.signals.getLsbD i = (word 194).testBit i) ∧
        k.anemometer = within 1 5000 (word 196) ∧ k.vaneOffset = min 359 (word 198)) ∧
      -- the vent records
      (∀ v : VentId,
        let o := 38 + 18 * v.val
        let x := k.vents[v]
        x.used = (byte o).testBit 7 ∧ (x.used = true →
          x.tandem = (byte o).testBit 6 ∧ x.comfort = (byte o).testBit 5 ∧ x.rainClose = (byte o).testBit 4 ∧
          x.stormClose = (byte o).testBit 3 ∧ (byte (o + 1) ≤ 7 → x.chan.val = byte (o + 1)) ∧
          (x.role = .primary ↔ byte (o + 2) = 1) ∧ (x.role = .reserve ↔ byte (o + 2) = 2) ∧
          (x.role = .inlet ↔ byte (o + 2) = 3) ∧ x.home.val = min 7 (byte (o + 3)) ∧ x.mask.toNat = byte (o + 4) ∧
          x.facing = (if word (o + 5) = 65535 then none else some (min 359 (word (o + 5)))) ∧
          x.area = within 1 4000 (word (o + 7)) ∧ x.cd = max 1 (byte (o + 9)) ∧
          x.openTime = within 1 1200 (word (o + 10)) ∧ x.closeTime = within 1 1200 (word (o + 12)) ∧
          x.running = within 1 150 (byte (o + 14)) ∧ x.inrush = within 1 150 (byte (o + 15)) ∧
          x.stall = within 1 150 (byte (o + 16)) ∧ x.rank = byte (o + 17))) ∧
      -- the terminal records
      (∀ t : TermId,
        let code := byte (182 + 2 * t.val)
        let operand := byte (183 + 2 * t.val)
        let f := k.terms[t]
        (code = 0 ∨ 13 < code ↔ f = .unused) ∧
        (∀ z : Zone, (f = .smokeLoop z ↔ code = 1 ∧ z.val = min 7 operand) ∧
          (f = .callPoint z ↔ code = 2 ∧ z.val = min 7 operand)) ∧
        (∀ m : VentSet, (f = .manualOpen m ↔ code = 5 ∧ m.toNat = operand) ∧
          (f = .manualClose m ↔ code = 6 ∧ m.toNat = operand)) ∧
        (∀ i x, [TermFn.keyOpen, .keyClose][i]? = some x → (f = x ↔ code = 3 + i)) ∧
        ∀ i x, [TermFn.rainSense, .windPulse, .windVane, .mainsMonitor, .signalOut, .resetButton, .lampFire][i]? = some x →
          (f = x ↔ code = 7 + i)) ∧
      -- what is not refused
      (imageSound b = true ↔
        let used := fun v : VentId => (byte (38 + 18 * v.val)).testBit 7 = true
        let names := fun (v : VentId) (c : Nat) => c = byte (39 + 18 * v.val) ∨
          (byte (38 + 18 * v.val)).testBit 6 = true ∧ c = byte (39 + 18 * v.val) + 1
        word 0 = 0xA7D2 ∧ ((b.take 200).map BitVec.toNat).sum % 65536 = word 200 ∧ byte 2 ≤ 29 ∧
        (∀ t : TermId, 4 ≤ t.val → byte (182 + 2 * t.val) ≠ 1 ∧ byte (182 + 2 * t.val) ≠ 9) ∧
        ∀ v : VentId, used v →
          byte (39 + 18 * v.val) ≤ 7 ∧
          ((byte (38 + 18 * v.val)).testBit 6 = true → byte (39 + 18 * v.val) % 2 = 0) ∧
          (byte (40 + 18 * v.val) = 1 → byte (41 + 18 * v.val) ≤ 7) ∧
          ∀ w : VentId, w ≠ v → used w → ∀ c, ¬ (names v c ∧ names w c))

/-! ### Start-up -/

/-- R176: a chip reset begins: nothing is driven, the outputs are released, loop power is off, the queue is empty; a
POWER_ON clears the retention memory, a RESET_PIN keeps it unless a POWER_ON reset lasts. R140, R170, R176: it ends:
LOADING, the first read attempt, the restart cause, every block at its reset values; the retention memory as the reset
left it. (When within the reset the values are set is the model's choice, log entry 6.) -/
def Obligations.ChipResets : Prop :=
  (∀ (dt : Micros) (s : State),
      (∃ t, exec (.powerOnReset dt) s = .next t ∧ t.boot.station = .inReset .powerOn ∧ (∀ c : ChanId, t.retention[c] = none) ∧
        (∀ c : ChanId, t.chans[c].driven = none) ∧ (∀ i : TermId, t.outputs[i] = false ∧ t.terms[i].loop = .off) ∧
        t.line.frames = [] ∧ t.pins = s.pins ∧ t.pending = s.pending ∧ t.now = s.now + dt) ∧
      (∃ t, exec (.resetPinReset dt) s = .next t ∧
        (s.boot.station = .inReset .powerOn → t.boot.station = .inReset .powerOn ∧ ∀ c : ChanId, t.retention[c] = none) ∧
        (s.boot.station ≠ .inReset .powerOn → t.boot.station = .inReset .resetPin ∧ t.retention = s.retention) ∧
        (∀ c : ChanId, t.chans[c].driven = none) ∧ (∀ i : TermId, t.outputs[i] = false ∧ t.terms[i].loop = .off) ∧
        t.line.frames = [] ∧ t.pins = s.pins ∧ t.pending = s.pending ∧ t.now = s.now + dt)) ∧
    ∀ (dt : Micros) (k : ResetKind) (s : State), s.boot.station = .inReset k →
      ∃ t, exec (.chipResetEnd dt) s = .next t ∧
        t = { State.reset with
              now := s.now + dt, event := s.event + 1, pending := s.pending, pins := s.pins,
              retention := t.retention, line := Line.reset k,
              boot := { station := .loading, loader := .loading, attempt := 1, attemptAt := s.now + dt, joinEnds := none } } ∧
        t.line.cause = some k ∧ (k = .resetPin → t.retention = s.retention) ∧
        (k = .powerOn → ∀ c : ChanId, t.retention[c] = none)

/-- R170, R173, R175: an attempt without acknowledge, or 200 ms old, is abandoned: the first is followed by the second,
the second by FALLBACK with T5 asserted and the retention memory untouched. -/
def Obligations.ReadAbandoned : Prop :=
  ∀ (dt : Micros) (c : Instr) (s : State), s.boot.station = .loading → s.boot.loader = .loading →
    (c = .memoryNoAcknowledge dt ∨ c = .readAttemptTimeout dt ∧ s.boot.attemptAt + 200000 ≤ s.now + dt) →
    (s.boot.attempt = 1 → ∃ t, exec c s = .next t ∧ t.boot.attempt = 2 ∧ t.boot.attemptAt = s.now + dt ∧
      t = { s with now := t.now, event := t.event, boot := { s.boot with attempt := 2, attemptAt := s.now + dt } }) ∧
    (s.boot.attempt = 2 → ∃ t, exec c s = .next t ∧ t.boot.station = .fallback ∧ t.boot.loader = .failed ∧
      t.line.state = .listenOnly ∧ t.retention = s.retention ∧ (∀ i : TermId, t.outputs[i] = true ↔ i = 5) ∧
      t = { s with now := t.now, event := t.event, boot := t.boot, outputs := t.outputs,
                   line := { s.line with state := .listenOnly } })

/-- R61, R63, R171 to R174: a completed read is taken into JOIN, or refused into FALLBACK. (That a tandem vent with one
known entry counts as given a known estimate is the model's choice, log entry 34.) R126, R130, R133, R134, R138: every terminal starts from its reset values: the loops in
WATCH, a contact closed already in its 50 ms debounce, mains lost already in its 2 s, the comparator reported once. -/
def Obligations.ImageTaken : Prop :=
  ∀ (dt : Micros) (b : List Byte) (s : State), s.boot.station = .loading → s.boot.loader = .loading → b.length = 202 →
    (imageSound b = false → ∃ t, exec (.imageReadComplete dt b) s = .next t ∧ t.boot.station = .fallback ∧
      t.boot.loader = .failed ∧ t.line.state = .listenOnly ∧ t.image = s.image ∧ t.retention = s.retention) ∧
    (imageSound b = true → ∃ t, exec (.imageReadComplete dt b) s = .next t ∧ t.boot.station = .join ∧
      t.boot.loader = .done ∧ t.boot.joinEnds = some (s.now + dt + 1000000) ∧ t.image = readImage b ∧
      (∀ (v : VentId) (c : ChanId), c ∈ t.channels v →
        t.chans[c].estimate = s.retention[c] ∧ t.chans[c].driven = none ∧ t.retention[c] = s.retention[c]) ∧
      (∀ c : ChanId, (∀ v : VentId, c ∉ t.channels v) → t.retention[c] = none) ∧
      (∀ v : VentId, t.vents[v].state = .idle ∧ t.vents[v].lastDir = none ∧
        (t.vents[v].stops = 8 ↔ ∃ c ∈ t.channels v, s.retention[c].isSome = true)) ∧
      let contact := fun k : TermId => t.fn k = .keyOpen ∨ t.fn k = .keyClose ∨ t.fn k = .resetButton ∨
        (∃ z, t.fn k = .callPoint z) ∨ ∃ m, t.fn k = .manualOpen m ∨ t.fn k = .manualClose m
      let lowest := fun (f : TermFn) (k : TermId) => t.fn k = f ∧ ∀ j : TermId, j < k → t.fn j ≠ f
      (∀ k : TermId,
        (contact k → t.terms[k] =
          { Term.reset with debounce := if s.pins[k] then some (s.now + dt + 50000) else none }) ∧
        (∀ z, t.fn k = .smokeLoop z → t.terms[k] = { Term.reset with loop := .watch }) ∧
        (¬ contact k → (∀ z, t.fn k ≠ .smokeLoop z) → t.terms[k] = Term.reset) ∧
        (lowest .mainsMonitor k →
          t.mains = { battery := false, loss := if s.pins[k] then none else some (s.now + dt + 2000000), back := none }) ∧
        (lowest .rainSense k → t.weather.rainConfirm =
          if s.pins[k] = s.weather.wetFiltered then none else some (s.now + dt + 1000000))) ∧
      ((∀ k : TermId, t.fn k ≠ .mainsMonitor) → t.mains = { battery := false, loss := none, back := none }))

/-- R4, R7, R151, R174: the JOIN timer expires: RUN, the epoch known, the heartbeat started; with the line in LINE_OK and
the queue empty, the ALARM frames held are those of the lowest six zones, ascending, at the applied epoch; R151, R115: where
they leave room a STATUS with the restart cause waits and, at a source, a WEATHER. (With at most 2 alarms every frame of the
passage finds a place, in whatever order they are offered. That with 3 or 4 alarms the STATUS finds one is the model's choice:
R148, R149 and R174 give no order of offering, and the model offers DRAW, STATUS, AREA, WEATHER, log entry 8. That the STATUS
shows the state the whole event leaves is the model's choice too, log entry 8.) R24, R60: a used
vent in IDLE is evaluated with its effective demand. -/
def Obligations.JoinEnds : Prop :=
  ∀ (dt : Micros) (s : State) (e : Micros), s.boot.station = .join → s.boot.joinEnds = some e → e ≤ s.now + dt →
    ∃ t, exec (.joinTimerExpiry dt) s = .next t ∧ t.boot.station = .run ∧ t.boot.joinEnds = none ∧
      t.fire = { zones := s.fire.zones, epoch := if s.fire.known then s.fire.epoch else 0, known := true } ∧
      t.line.heartbeat = some (s.now + dt + if s.fire.zones = 0 then 2000000 else 1000000) ∧
      t.sources = { (s.tick dt).sources with boot := t.boot, fire := t.fire, line := t.line.standing } ∧
      (s.line.state = .ok → s.line.waiting = [] → s.line.tx = none →
        (t.line.waiting.map Queued.frame).filter (fun f => f.kind == 0) =
          ((eight.filter fun z => memberOf z s.fire.zones).take 6).map fun z => Frame.alarm z t.fire.epoch) ∧
      (s.line.state = .ok → s.line.waiting = [] → s.line.tx = none →
        let alarms := (eight.filter fun z => memberOf z s.fire.zones).length
        (alarms ≤ 4 → ∃ c q, q ∈ t.line.waiting ∧ q.frame = .status c ∧ t.shownBy c ∧ c.cause = s.line.cause) ∧
        (alarms ≤ 2 → s.isSource = true → ∃ q ∈ t.line.waiting, q.frame = .weather
          { speed := s.weather.speed, dir := s.weather.dir.getD 65535, wind := s.weather.wind, rain := s.weather.rain,
            vaneFault := s.weather.vaneFault })) ∧
      ∀ v : VentId, s.DriveLaw → s.ArbiterLaw → s.line.state = .ok → s.uncallable v → s.used v = true →
        s.vents[v].state = .idle →
        t.holdsDemand v ∧ ((s.tick dt).wants v = none → t.vents[v].state = .idle) ∧
          ∀ d k, (s.tick dt).wants v = some (d, k) →
            (s.vents[v].permits d = true → (t.vents[v].state = .waitSupply ∨ t.vents[v].state = .announced) ∧
              t.vents[v].runKind = some k ∧ t.vents[v].joinTime = s.now + dt) ∧
            (s.vents[v].permits d = false → t.vents[v].state = .dwell ∧
              t.vents[v].dwellEnds = some (s.now + dt + 300000))

/-! ### Received frames -/

/-- R156: in LOADING, in FALLBACK and during a reset a valid frame reaches no block: only time passes. R142, R147: what
any valid received frame does to the Line Controller in JOIN and RUN: own-last clears, and LINE_LOST ends after 10 bit
times of quiet. -/
def Obligations.FramesHeard : Prop :=
  (∀ (c : Instr) (quiet : Nat) (s : State), quietBefore c = some quiet → s.active = false →
      exec c s = .next (s.tick (timeOf c))) ∧
    ∀ (c : Instr) (quiet : Nat) (s : State), quietBefore c = some quiet → s.active = true →
      ∃ t, exec c s = .next t ∧
        (s.line.state = .lost → 10 ≤ quiet → t.line.state = .ok ∧ t.line.failures = 0) ∧
        (¬ (s.line.state = .lost ∧ 10 ≤ quiet) → t.line.state = s.line.state ∧ t.line.failures = s.line.failures) ∧
        t.line.standing = { s.line.standing with
          state := t.line.state, failures := t.line.failures, ownLast := false, clash := t.line.clash } ∧
        t.boot = s.boot ∧ t.image = s.image ∧ t.pins = s.pins ∧ t.mains = s.mains ∧ t.pending = s.pending

/-- R3, R4, R8, R9: an ALARM, and a STATUS with its whole set, against the applied epoch: adopted when none is known,
added when equal, applied when newer, with the zones of the call points still active (R13), ignored when older. -/
def Obligations.AlarmAndStatusHandled : Prop :=
  (∀ (dt : Micros) (q : Nat) (src : StationNode) (z : Zone) (e : Epoch) (s : State), s.active = true →
      ∃ t, exec (.alarmReceived dt q src z e) s = .next t ∧
        (s.fire.known = false → t.fire = { zones := s.fire.zones ||| only z, epoch := e, known := true }) ∧
        (s.fire.known = true → e = s.fire.epoch → t.fire = { s.fire with zones := s.fire.zones ||| only z }) ∧
        (s.fire.known = true → 1 ≤ (e - s.fire.epoch).toNat → (e - s.fire.epoch).toNat ≤ 127 →
          t.fire.epoch = e ∧ t.fire.known = true ∧ ∀ y : Zone, memberOf y t.fire.zones = true ↔
            y = z ∨ ∃ k : TermId, s.fn k = .callPoint y ∧ s.terms[k].debounced = true) ∧
        (s.fire.known = true → 128 ≤ (e - s.fire.epoch).toNat → t.fire = s.fire ∧ t.terms = s.terms) ∧
        t.sources = { (s.tick dt).sources with
          fire := t.fire, line := t.line.standing, peers := t.peers, weather := t.weather, windward := t.windward,
          terms := t.terms }) ∧
    ∀ (dt : Micros) (q : Nat) (src : StationNode) (c : StatusContent) (s : State), s.active = true →
      ∃ t, exec (.statusReceived dt q src c) s = .next t ∧
        (s.fire.known = false → t.fire = { zones := s.fire.zones ||| c.zones, epoch := c.epoch, known := true }) ∧
        (s.fire.known = true → c.epoch = s.fire.epoch → t.fire = { s.fire with zones := s.fire.zones ||| c.zones }) ∧
        (s.fire.known = true → 1 ≤ (c.epoch - s.fire.epoch).toNat → (c.epoch - s.fire.epoch).toNat ≤ 127 →
          t.fire.epoch = c.epoch ∧ t.fire.known = true ∧ ∀ y : Zone, memberOf y t.fire.zones = true ↔
            memberOf y c.zones = true ∨ ∃ k : TermId, s.fn k = .callPoint y ∧ s.terms[k].debounced = true) ∧
        (s.fire.known = true → 128 ≤ (c.epoch - s.fire.epoch).toNat → t.fire = s.fire ∧ t.terms = s.terms) ∧
        t.sources = { (s.tick dt).sources with
          fire := t.fire, line := t.line.standing, peers := t.peers, weather := t.weather, windward := t.windward,
          terms := t.terms }

/-- R4, R10 to R13: a RESET against the applied epoch: adopted, ignored, or applied, with every smoke loop unpowered for
5 s. -/
def Obligations.ResetHandled : Prop :=
  ∀ (dt : Micros) (q : Nat) (src : ResetSender) (e : Epoch) (s : State), s.active = true →
    ∃ t, exec (.resetReceived dt q src e) s = .next t ∧
      (s.fire.known = false → t.fire = { zones := s.fire.zones, epoch := e, known := true } ∧ t.terms = s.terms) ∧
      (s.fire.known = true → (e = s.fire.epoch ∨ 128 ≤ (e - s.fire.epoch).toNat) → t.fire = s.fire ∧ t.terms = s.terms) ∧
      (s.fire.known = true → 1 ≤ (e - s.fire.epoch).toNat → (e - s.fire.epoch).toNat ≤ 127 →
        t.fire.epoch = e ∧ t.fire.known = true ∧
        (∀ y : Zone, memberOf y t.fire.zones = true ↔
          ∃ k : TermId, s.fn k = .callPoint y ∧ s.terms[k].debounced = true) ∧
        ∀ k : TermId,
          if (s.fn k).isLoop = true then
            t.terms[k] = { s.terms[k] with loop := .off, band := none, confirm := none, faultTimer := none,
                                           cycle := some (s.now + dt + 5000000) }
          else t.terms[k] = s.terms[k]) ∧
      t.sources = { (s.tick dt).sources with
        fire := t.fire, line := t.line.standing, peers := t.peers, weather := t.weather, windward := t.windward,
        terms := t.terms }

/-- R12: a newer epoch, in a RESET, an ALARM or a STATUS or by a press of the reset button in RUN, releases every LOCKED
vent and zeroes every stall retry count; where it carries no zone and no call point is active it leaves no FIRE record and
no called reserve. R12, R132: it switches off the power of every smoke loop for 5 s from this event, a cycle under way started
again, the latest band, the confirmation and the fault timer gone; no other terminal changes but the button pressed. -/
def Obligations.NewerEpochReleases : Prop :=
  ∀ (dt : Micros) (i : Instr) (e : Epoch) (carried : ZoneSet) (s : State), s.active = true → s.fire.known = true →
    1 ≤ (e - s.fire.epoch).toNat → (e - s.fire.epoch).toNat ≤ 127 →
    ((∃ q src, i = .resetReceived dt q src e ∧ carried = 0) ∨
      (∃ q src z, i = .alarmReceived dt q src z e ∧ carried = only z) ∨
      (∃ q src c, i = .statusReceived dt q src c ∧ c.epoch = e ∧ c.zones = carried) ∨
      ∃ k d, i = .debounceExpiry dt k ∧ e = s.fire.epoch + 1 ∧ carried = 0 ∧ s.boot.station = .run ∧
        s.fn k = .resetButton ∧ s.pins[k] = true ∧ s.terms[k].debounce = some d ∧ d ≤ s.now + dt) →
    ∃ t, exec i s = .next t ∧ t.fire.epoch = e ∧
      (∀ v : VentId, t.vents[v].state ≠ .locked ∧ t.vents[v].retries = 0 ∧
        (s.vents[v].state = .locked → t.vents[v].fault = .none)) ∧
      (carried = 0 → (∀ (k : TermId) (z : Zone), s.fn k = .callPoint z → s.terms[k].debounced = false) →
        t.area.calledSet = 0 ∧ (s.ArbiterLaw → ∀ v : VentId, t.demand[v].fire = none)) ∧
      ∀ k : TermId,
        (∀ z : Zone, s.fn k = .smokeLoop z → t.terms[k] =
          { s.terms[k] with loop := .off, band := none, confirm := none, faultTimer := none,
                            cycle := some (s.now + dt + 5000000) }) ∧
        ((∀ z : Zone, s.fn k ≠ .smokeLoop z) → (∀ d, i ≠ .debounceExpiry d k) → t.terms[k] = s.terms[k])

/-- R159, R160, R164: a DRAW refreshes its sender's entry and sets its draws, clamped, its pending class and its inrush
expiry; no other entry changes. -/
def Obligations.PeerDrawTaken : Prop :=
  ∀ (dt : Micros) (q : Nat) (src : StationNode) (c : DrawContent) (s : State), s.active = true → src.val ≠ s.image.node →
    ∃ t p, exec (.drawReceived dt q src c) s = .next t ∧ t.peers[src] = some p ∧ p.fresh = true ∧ p.heard = s.now + dt ∧
      p.running = min 1200 c.running ∧ p.inrush = min 1200 c.inrush ∧ p.pending = c.pending ∧
      p.inrushEnds = (if c.inrush = 0 then none else some (s.now + dt + s.image.inrushMs * 1000)) ∧
      (∀ o, s.peers[src] = some o →
        p.zones = o.zones ∧ p.epoch = o.epoch ∧ p.area = o.area ∧ p.weather = o.weather) ∧
      (s.peers[src] = none → p.zones = 0 ∧ p.epoch = none ∧ p.area = none ∧ p.weather = none) ∧
      (∀ n : StationNode, n ≠ src → t.peers[n] = s.peers[n]) ∧ t.fire = s.fire ∧ t.terms = s.terms

/-- R159, R160, R162: ALARM, RESET and STATUS set their sender's reported set and epoch, in an entry created where none
was; the area record goes where the set no longer names its zone first, or a reported epoch changes. (That a frame which
leaves the set and the epoch as they were, too, withdraws a record of a zone that is not the lowest is the model's reading
of R162, log entry 32.) -/
def Obligations.PeerSetTaken : Prop :=
  ∀ (dt : Micros) (q : Nat) (src : StationNode) (s : State) (o : Peer), s.active = true → src.val ≠ s.image.node →
    (s.peers[src] = some o ∨ s.peers[src] = none ∧ o =
      { fresh := true, heard := s.now + dt, zones := 0, epoch := none, running := 0, inrush := 0, inrushEnds := none,
        pending := none, area := none, weather := none }) →
    let keeps := fun (p : Peer) (e : Epoch) =>
      (∀ a, o.area = some a →
        p.area = if lowest p.zones = some a.zone ∧ (o.epoch = none ∨ o.epoch = some e) then some a else none) ∧
      (o.area = none → p.area = none)
    (∀ (z : Zone) (e : Epoch), ∃ t p, exec (.alarmReceived dt q src z e) s = .next t ∧ t.peers[src] = some p ∧
      p = { o with fresh := true, heard := s.now + dt, epoch := some e, zones := p.zones, area := p.area } ∧
      p.zones = (if o.epoch = some e then o.zones ||| only z else only z) ∧ keeps p e ∧
      ∀ n : StationNode, n ≠ src → t.peers[n] = s.peers[n]) ∧
    (∀ e : Epoch, ∃ t, exec (.resetReceived dt q (.station src) e) s = .next t ∧
      t.peers[src] = some { o with fresh := true, heard := s.now + dt, epoch := some e, zones := 0, area := none } ∧
      ∀ n : StationNode, n ≠ src → t.peers[n] = s.peers[n]) ∧
    (∀ c : StatusContent, ∃ t p, exec (.statusReceived dt q src c) s = .next t ∧ t.peers[src] = some p ∧
      p = { o with fresh := true, heard := s.now + dt, epoch := some c.epoch, zones := c.zones,
                   running := min 1200 c.running, pending := c.pending, area := p.area } ∧
      keeps p c.epoch ∧ ∀ n : StationNode, n ≠ src → t.peers[n] = s.peers[n])

/-- R159, R161: an AREA refreshes or creates its sender's entry and is taken into its record unless its zone is a member,
and not the lowest, of the reported set. R163: a WEATHER replaces its sender's weather record whole; a direction of 360 or
more is held as invalid. R116: the effective weather is formed from the candidates the table then gives. -/
def Obligations.PeerRecordsTaken : Prop :=
  ∀ (dt : Micros) (q : Nat) (src : StationNode) (s : State) (o : Peer), s.active = true → src.val ≠ s.image.node →
    (s.peers[src] = some o ∨ s.peers[src] = none ∧ o =
      { fresh := true, heard := s.now + dt, zones := 0, epoch := none, running := 0, inrush := 0, inrushEnds := none,
        pending := none, area := none, weather := none }) →
    (∀ c : AreaContent, ∃ t p, exec (.areaReceived dt q src c) s = .next t ∧ t.peers[src] = some p ∧
      p.area = (if memberOf c.zone o.zones = true ∧ lowest o.zones ≠ some c.zone then o.area
        else some { zone := c.zone, primary := c.primary, offer := c.offer }) ∧
      p = { o with fresh := true, heard := s.now + dt, area := p.area } ∧
      (∀ n : StationNode, n ≠ src → t.peers[n] = s.peers[n]) ∧ t.fire = s.fire ∧ t.terms = s.terms) ∧
    ∀ c : WeatherContent, ∃ t, exec (.weatherReceived dt q src c) s = .next t ∧
      t.peers[src] = some { o with
        fresh := true, heard := s.now + dt,
        weather := some { dir := if c.dir < 360 then some c.dir else none, wind := c.wind, rain := c.rain,
                          heard := s.now + dt } } ∧
      (∀ n : StationNode, n ≠ src → t.peers[n] = s.peers[n]) ∧ t.fire = s.fire ∧ t.terms = s.terms ∧ t.weatherFormed

/-- R154: a valid frame with the station's own node number sets NODE_CLASH and reaches no entry of the Peer Table. -/
def Obligations.NodeClashSet : Prop :=
  ∀ (dt : Micros) (q : Nat) (n : StationNode) (s : State), s.active = true → n.val = s.image.node →
    ∀ c : Instr,
      ((∃ z e, c = .alarmReceived dt q n z e) ∨ (∃ e, c = .resetReceived dt q (.station n) e) ∨
        (∃ x, c = .statusReceived dt q n x) ∨ (∃ x, c = .drawReceived dt q n x) ∨ (∃ x, c = .areaReceived dt q n x) ∨
        ∃ x, c = .weatherReceived dt q n x) →
      ∃ t, exec c s = .next t ∧ t.line.clash = true ∧ t.peers = s.peers ∧ t.line.rxErrors = s.line.rxErrors

/-- R31, R33, R34: a COMFORT frame writes its clamped target and hold time on each used, eligible vent of its zones in
NORMAL, and nothing in BATTERY. -/
def Obligations.ComfortWrites : Prop :=
  ∀ (dt : Micros) (q : Nat) (zones : ZoneSet) (target hold : Nat) (s : State), s.active = true →
    ∃ t, exec (.comfortReceived dt q zones target hold) s = .next t ∧
      (∀ v : VentId, t.demand[v].comfort =
        if s.mains.battery = false ∧ s.used v = true ∧ (s.cfg v).comfort = true ∧ memberOf (s.cfg v).home zones = true then
          some { target := .pos (min 1000 target), origin := .gateway,
                 expiry := some (s.now + dt + max 1 (min 255 hold) * 60000000) }
        else s.demand[v].comfort) ∧
      (∀ v : VentId, t.demand[v].brigade = s.demand[v].brigade ∧ t.demand[v].manual = s.demand[v].manual) ∧
      t.sources = { (s.tick dt).sources with demand := t.sources.demand, line := t.line.standing }

/-- R25, R26: an OVERRIDE writes or removes the BRIGADE record of each used vent its scope names, and of no other. R27,
R59: OPEN and CLOSE release those of them that are LOCKED, each evaluated as an IDLE vent is (in LINE_OK, where no start is
given in the same event); HOLD and RELEASE release none, and no other vent is released. (The part on LOCKED vents by the
drive law: a start in progress is that of an ANNOUNCED vent, R73.) R24, R102: in fire mode an OVERRIDE that changes a used
vent's effective target or class, the class alone too, makes the balance recompute, so that in a state that obeys the laws its
figures are those of the state the event leaves (R87 to R98) and its calls those its own take requires (R99 to R101). -/
def Obligations.OverrideWrites : Prop :=
  ∀ (dt : Micros) (q : Nat) (sc : Scope) (s : State), s.active = true →
    let named := fun v : VentId => s.used v = true ∧
      (sc = .all ∨ sc = .zone (s.cfg v).home ∨ sc = .station s.image.node ∨ sc = .vent s.image.node v.val)
    ∀ (c : Instr) (r : Option Record),
      (c = .overrideOpen dt q sc ∧ r = some { target := .pos 1000, origin := .panel, expiry := none }) ∨
        (c = .overrideClose dt q sc ∧ r = some { target := .pos 0, origin := .panel, expiry := none }) ∨
        (c = .overrideHold dt q sc ∧ r = some { target := .hold, origin := .panel, expiry := none }) ∨
        (c = .overrideRelease dt q sc ∧ r = none) →
      ∃ t, exec c s = .next t ∧
        (∀ v : VentId, (named v → t.demand[v].brigade = r) ∧ (¬ named v → t.demand[v].brigade = s.demand[v].brigade)) ∧
        (∀ v : VentId, t.demand[v].manual = s.demand[v].manual ∧ t.demand[v].comfort = s.demand[v].comfort) ∧
        (s.DriveLaw → ∀ v : VentId, s.vents[v].state = .locked →
          (named v ∧ (c = .overrideOpen dt q sc ∨ c = .overrideClose dt q sc) →
            t.vents[v].fault = .none ∧ t.vents[v].retries = 0 ∧
            (s.line.state = .ok →
              (t.wants v = none → t.vents[v].state = .idle) ∧
              ∀ d k, t.wants v = some (d, k) →
                if t.vents[v].permits d then t.vents[v].state = .waitSupply ∨ t.vents[v].state = .announced
                else t.vents[v].state = .dwell)) ∧
          (¬ (named v ∧ (c = .overrideOpen dt q sc ∨ c = .overrideClose dt q sc)) →
            t.vents[v].state = .locked ∧ t.vents[v].fault = s.vents[v].fault ∧ t.vents[v].retries = s.vents[v].retries)) ∧
        (s.AreaLaw → s.ArbiterLaw → s.DriveLaw → ∀ z : Zone, s.leadZone = some z →
          (∃ v : VentId, s.used v = true ∧ t.effective v ≠ s.effective v) →
          t.area.balance = some z ∧ t.figuresHold z ∧ s.callsMade t z) ∧
        t.sources = { (s.tick dt).sources with demand := t.sources.demand, line := t.line.standing }

/-- R142, R153, R156: a discarded frame raises the receive error count, up to 255, in JOIN, RUN and FALLBACK, and clears
own-last when it was received to the end of its check byte; nothing else changes. (R153 names no recovery attempt: that one
stands through a discarded frame is the model's choice, log entry 43.) -/
def Obligations.FrameDiscardCounted : Prop :=
  ∀ (dt : Micros) (cause : DiscardCause) (s : State),
    s.boot.station = .join ∨ s.boot.station = .run ∨ s.boot.station = .fallback → s.line.rxErrors ≤ 255 →
    ∃ t, exec (.frameDiscarded dt cause) s = .next t ∧ t.line.rxErrors = min 255 (s.line.rxErrors + 1) ∧
      t.line.ownLast = (s.line.ownLast && (cause == .abandoned || cause == .violation)) ∧
      t = { s with now := s.now + dt, event := s.event + 1,
                   line := { s.line with rxErrors := t.line.rxErrors, ownLast := t.line.ownLast } }

/-! ### Demand expiry and terminals -/

/-- R32: a MANUAL or COMFORT record at its expiry is removed, that record only. -/
def Obligations.DemandExpires : Prop :=
  ∀ (dt : Micros) (v : VentId) (c : TimedClass) (s : State) (r : Record) (e : Micros), s.active = true →
    s.demand[v].timed c = some r → r.expiry = some e → e ≤ s.now + dt →
    ∃ t, exec (.demandExpiry dt v c) s = .next t ∧ t.demand[v].timed c = none ∧
      (∀ (w : VentId) (k : TimedClass), (w ≠ v ∨ k ≠ c) → t.demand[w].timed k = s.demand[w].timed k) ∧
      (∀ w : VentId, t.demand[w].brigade = s.demand[w].brigade) ∧
      t.sources = { (s.tick dt).sources with demand := t.sources.demand }

/-- R126: a contact pin that comes to differ from its debounced level starts 50 ms, one that returns stops them; at the
expiry the debounced level takes the pin's. R28: a change of key position is a BRIGADE arrival of OPEN or CLOSE on every
used vent, which releases it where it is LOCKED (R27), or removes the records of KEY origin. R30, R34: a manual press
writes its record on each used, eligible vent of its mask in NORMAL, and a release writes none. -/
def Obligations.ContactDebounced : Prop :=
  ∀ (dt : Micros) (k : TermId) (s : State), s.active = true → (s.fn k).isContact = true →
    (∀ a : Bool, s.pins[k] ≠ a → ∃ t, exec (.contactPinChange dt k a) s = .next t ∧ t.pins[k] = a ∧
      t.terms[k] = { s.terms[k] with debounce := if a = s.terms[k].debounced then none else some (s.now + dt + 50000) } ∧
      (∀ j : TermId, j ≠ k → t.terms[j] = s.terms[j] ∧ t.pins[j] = s.pins[j]) ∧
      t = { s with now := s.now + dt, event := s.event + 1, terms := t.terms, pins := t.pins }) ∧
    (∀ e : Micros, s.terms[k].debounce = some e → e ≤ s.now + dt →
      let opened := fun x : State => ∃ j : TermId, s.fn j = .keyOpen ∧ x.terms[j].debounced = true
      let closed := fun x : State => ∃ j : TermId, s.fn j = .keyClose ∧ x.terms[j].debounced = true
      let manual := fun (v : VentId) (m : VentSet) =>
        s.pins[k] = true ∧ s.mains.battery = false ∧ s.used v = true ∧ (s.cfg v).comfort = true ∧ memberOf v m = true
      let closing := ∃ (j : TermId) (n : VentSet), s.fn j = .manualClose n ∧ s.terms[j].debounced = true
      let record := fun p : Nat => some
        { target := .pos p, origin := .terminal k,
          expiry := if s.image.manualHold = 0 then none else some (s.now + dt + s.image.manualHold * 60000000) }
      ∃ t, exec (.debounceExpiry dt k) s = .next t ∧ t.terms[k].debounced = s.pins[k] ∧ t.terms[k].debounce = none ∧
        (∀ z : Zone, s.fn k = .callPoint z → s.pins[k] = true → memberOf z t.fire.zones = true) ∧
        ((s.fn k = .keyOpen ∨ s.fn k = .keyClose) → t.fire = s.fire ∧ ∀ v : VentId, s.used v = true →
          ((opened s ↔ opened t) ∧ (closed s ↔ closed t) → t.demand[v].brigade = s.demand[v].brigade) ∧
          (¬ ((opened s ↔ opened t) ∧ (closed s ↔ closed t)) →
            (opened t ∧ ¬ closed t → t.demand[v].brigade = some { target := .pos 1000, origin := .key, expiry := none }) ∧
            (closed t ∧ ¬ opened t → t.demand[v].brigade = some { target := .pos 0, origin := .key, expiry := none }) ∧
            (¬ (opened t ↔ closed t) → s.vents[v].state = .locked →
              t.vents[v].state ≠ .locked ∧ t.vents[v].fault = .none ∧ t.vents[v].retries = 0) ∧
            ((opened t ↔ closed t) → t.demand[v].brigade =
              if s.demand[v].brigade.map Record.origin = some .key then none else s.demand[v].brigade))) ∧
        (¬ (s.fn k = .keyOpen ∨ s.fn k = .keyClose) → ∀ v : VentId, t.demand[v].brigade = s.demand[v].brigade) ∧
        (∀ (v : VentId) (m : VentSet), s.fn k = .manualOpen m →
          (manual v m → closing → t.demand[v].manual = record 0) ∧
          (manual v m → ¬ closing → t.demand[v].manual = record 1000) ∧
          (¬ manual v m → t.demand[v].manual = s.demand[v].manual)) ∧
        (∀ (v : VentId) (m : VentSet), s.fn k = .manualClose m →
          (manual v m → t.demand[v].manual = record 0) ∧ (¬ manual v m → t.demand[v].manual = s.demand[v].manual)) ∧
        ((∀ m : VentSet, s.fn k ≠ .manualOpen m ∧ s.fn k ≠ .manualClose m) →
          ∀ v : VentId, t.demand[v].manual = s.demand[v].manual) ∧
        (∀ v : VentId, t.demand[v].comfort = s.demand[v].comfort) ∧
        t.peers = s.peers ∧ t.pins = s.pins ∧ t.boot = s.boot)

/-- R15: in RUN a press of the reset button applies the applied epoch plus one and, in LINE_OK with a free place, a RESET
carrying it waits in the queue. In JOIN it is ignored. -/
def Obligations.ResetPressApplies : Prop :=
  ∀ (dt : Micros) (k : TermId) (s : State) (e : Micros), s.fn k = .resetButton → s.pins[k] = true →
    s.terms[k].debounce = some e → e ≤ s.now + dt →
    (s.boot.station = .run → ∃ t, exec (.debounceExpiry dt k) s = .next t ∧ t.fire.epoch = s.fire.epoch + 1 ∧
      t.fire.known = true ∧
      (∀ z : Zone, memberOf z t.fire.zones = true ↔ ∃ j : TermId, s.fn j = .callPoint z ∧ s.terms[j].debounced = true) ∧
      (s.line.state = .ok → s.line.waiting = [] → s.line.tx = none →
        (∀ (j : TermId) (z : Zone), s.fn j = .callPoint z → s.terms[j].debounced = false) →
        t.line.waiting.head?.map Queued.frame = some (.reset (s.fire.epoch + 1)))) ∧
    (s.boot.station = .join → ∃ t, exec (.debounceExpiry dt k) s = .next t ∧ t.fire = s.fire)

/-- R129 to R131: a reading of a powered loop is sorted into its band; the loop state, the confirmation and the fault
timer follow; no other terminal and nothing else changes. -/
def Obligations.LoopBandsSorted : Prop :=
  ∀ (dt : Micros) (k : TermId) (x : Nat) (s : State), s.active = true → (s.fn k).isLoop = true →
    s.terms[k].loop ≠ .off →
    ∃ t b, exec (.loopReading dt k x) s = .next t ∧ t.terms[k].band = some b ∧
      (x < 20 → b = .open) ∧ (20 ≤ x → x < 120 → b = .normal) ∧ (120 ≤ x → x ≤ 400 → b = .alarm) ∧
      (400 < x → b = .short) ∧
      (b ≠ .alarm → t.terms[k].loop = .watch ∧ (s.terms[k].loop ≠ .watch → t.terms[k].confirm = none)) ∧
      (b = .alarm → s.terms[k].loop = .watch →
        t.terms[k].loop = .confirming ∧ t.terms[k].confirm = some (s.now + dt + 2000000)) ∧
      (b = .alarm → s.terms[k].loop ≠ .watch →
        t.terms[k].loop = s.terms[k].loop ∧ t.terms[k].confirm = s.terms[k].confirm) ∧
      ((b = .open ∨ b = .short) = (s.terms[k].fault = true) → t.terms[k].faultTimer = none) ∧
      ((b = .open ∨ b = .short) ≠ (s.terms[k].fault = true) →
        t.terms[k].faultTimer = some (s.terms[k].faultTimer.getD (s.now + dt + 2000000))) ∧
      t.terms[k].fault = s.terms[k].fault ∧ (∀ j : TermId, j ≠ k → t.terms[j] = s.terms[j]) ∧
      t = { s with now := s.now + dt, event := s.event + 1, terms := t.terms }

/-- R5, R130: a confirmation that expires makes the loop CONFIRMED and adds its zone to the set; in RUN and LINE_OK, with
an empty queue and the zone new, an ALARM with the applied epoch heads the queue; beside the loop and the set only windward
items may change, as fire mode begins (R119). R131, R132: the fault timer's expiry
turns the fault flag; the power cycle's expiry returns the loop to WATCH with no band. -/
def Obligations.LoopTimersPass : Prop :=
  (∀ (dt : Micros) (k : TermId) (z : Zone) (s : State) (e : Micros), s.active = true → s.fn k = .smokeLoop z →
      s.terms[k].loop = .confirming → s.terms[k].confirm = some e → e ≤ s.now + dt →
      ∃ t, exec (.confirmationExpiry dt k) s = .next t ∧
        t.terms[k] = { s.terms[k] with loop := .confirmed, confirm := none } ∧
        (∀ j : TermId, j ≠ k → t.terms[j] = s.terms[j]) ∧
        t.fire = { s.fire with zones := s.fire.zones ||| only z } ∧
        (s.boot.station = .run → s.line.state = .ok → s.line.waiting = [] → s.line.tx = none →
          memberOf z s.fire.zones = false → t.line.waiting.head?.map Queued.frame = some (.alarm z s.fire.epoch)) ∧
        t.sources = { (s.tick dt).sources with fire := t.fire, terms := t.terms, windward := t.windward }) ∧
    ∀ (dt : Micros) (k : TermId) (s : State) (e : Micros), s.active = true → e ≤ s.now + dt →
      (s.terms[k].faultTimer = some e → ∃ t, exec (.loopFaultTimerExpiry dt k) s = .next t ∧
        t.terms[k] = { s.terms[k] with fault := !s.terms[k].fault, faultTimer := none } ∧
        t.sources = { (s.tick dt).sources with terms := t.terms } ∧ ∀ j : TermId, j ≠ k → t.terms[j] = s.terms[j]) ∧
      (s.terms[k].cycle = some e → ∃ t, exec (.powerCycleExpiry dt k) s = .next t ∧
        t.terms[k] = { s.terms[k] with loop := .watch, band := none, cycle := none } ∧
        (∀ j : TermId, j ≠ k → t.terms[j] = s.terms[j]) ∧
        t = { s with now := s.now + dt, event := s.event + 1, terms := t.terms })

/-- R34, R134: the mains monitor starts and stops the two timers; BATTERY removes every MANUAL and COMFORT record, and
NORMAL returns with none. -/
def Obligations.MainsFollowed : Prop :=
  ∀ (dt : Micros) (s : State), s.active = true →
    (∀ (k : TermId) (a : Bool), s.firstTerm .mainsMonitor = some k → s.pins[k] ≠ a →
      ∃ t, exec (.mainsPinChange dt k a) s = .next t ∧
        t.mains = (if s.mains.battery then
            { s.mains with back := if a then some (s.now + dt + 30000000) else none }
          else { s.mains with loss := if a then none else some (s.now + dt + 2000000) }) ∧
        t.pins[k] = a ∧ (∀ j : TermId, j ≠ k → t.pins[j] = s.pins[j]) ∧
        t = { s with now := s.now + dt, event := s.event + 1, mains := t.mains, pins := t.pins }) ∧
    (∀ e : Micros, s.mains.loss = some e → e ≤ s.now + dt → ∃ t, exec (.mainsLossTimerExpiry dt) s = .next t ∧
      t.mains = { s.mains with battery := true, loss := none } ∧
      (∀ v : VentId, t.demand[v].manual = none ∧ t.demand[v].comfort = none ∧
        t.demand[v].brigade = s.demand[v].brigade) ∧
      t.sources = { (s.tick dt).sources with mains := t.mains, demand := t.sources.demand }) ∧
    (∀ e : Micros, s.mains.back = some e → e ≤ s.now + dt → ∃ t, exec (.mainsReturnTimerExpiry dt) s = .next t ∧
      t.mains = { s.mains with battery := false, back := none } ∧
      t.sources = { (s.tick dt).sources with mains := t.mains })

/-! ### Weather -/

/-- R111: the rain comparator, the 1 s confirmation and the 600 s dry hold. -/
def Obligations.RainFollowed : Prop :=
  ∀ (dt : Micros) (s : State), s.active = true →
    (∀ (k : TermId) (wet : Bool), s.firstTerm .rainSense = some k → s.pins[k] ≠ wet →
      ∃ t, exec (.rainComparatorChange dt k wet) s = .next t ∧
        t.weather.rainConfirm = (if wet = s.weather.wetFiltered then none else some (s.now + dt + 1000000)) ∧
        t.pins[k] = wet ∧ (∀ j : TermId, j ≠ k → t.pins[j] = s.pins[j]) ∧
        t = { s with now := s.now + dt, event := s.event + 1, pins := t.pins,
                     weather := { s.weather with rainConfirm := t.weather.rainConfirm } }) ∧
    (∀ e : Micros, s.weather.rainConfirm = some e → e ≤ s.now + dt →
      ∃ t, exec (.rainConfirmationExpiry dt) s = .next t ∧ t.weather.wetFiltered = !s.weather.wetFiltered ∧
        t.weather.rainConfirm = none ∧
        (s.weather.wetFiltered = false → t.weather.rain = true ∧ t.weather.dryHold = none) ∧
        (s.weather.wetFiltered = true → s.weather.rain = true →
          t.weather.rain = true ∧ t.weather.dryHold = some (s.now + dt + 600000000)) ∧
        t.sources = { (s.tick dt).sources with weather := t.weather, windward := t.windward }) ∧
    (∀ e : Micros, s.weather.dryHold = some e → e ≤ s.now + dt →
      ∃ t, exec (.dryHoldExpiry dt) s = .next t ∧ t.weather.rain = false ∧ t.weather.dryHold = none ∧
        t.weather.wetFiltered = s.weather.wetFiltered ∧
        t.sources = { (s.tick dt).sources with weather := t.weather, windward := t.windward })

/-- R108: a pulse is a first reference, bounce, or the end of a period; the calm timeout empties the history. R113: where a
period joins, the own wind state rises with the speed, and its hold starts at the on threshold. R114: there and at the calm
timeout it falls one level where the hold is over and the speed at or below the off threshold (that a hold due at that
moment is over is the model's reading, log entry 27). R110: a vane reading sets the direction or, at the rails, the vane
fault. -/
def Obligations.WindInputsTaken : Prop :=
  let holdOver := fun (s : State) (dt : Micros) =>
    s.weather.windHold = none ∨ ∃ e, s.weather.windHold = some e ∧ e ≤ s.now + dt
  (∀ (dt : Micros) (k : TermId) (s : State), s.active = true → s.firstTerm .windPulse = some k →
      ∃ t, exec (.anemometerPulse dt k) s = .next t ∧
        (s.weather.lastPulse = none → t.weather = { s.weather with lastPulse := some (s.now + dt) }) ∧
        (∀ p, s.weather.lastPulse = some p → s.now + dt - p < 2000 → t.weather = s.weather) ∧
        (∀ p, s.weather.lastPulse = some p → 2000 ≤ s.now + dt - p → s.now + dt - p < 2000000 →
          t.weather.lastPulse = some (s.now + dt) ∧
          t.weather.history =
            (if s.weather.history.length < 4 then s.weather.history else s.weather.history.tail) ++ [s.now + dt - p] ∧
          (s.image.stormOn ≤ t.weather.speed →
            t.weather.wind = .storm ∧ t.weather.windHold = some (s.now + dt + s.image.stormHold * 1000000)) ∧
          (s.image.windyOn ≤ t.weather.speed → t.weather.speed < s.image.stormOn → s.weather.wind ≠ .storm →
            t.weather.wind = .windy ∧ t.weather.windHold = some (s.now + dt + s.image.windyHold * 1000000)) ∧
          (t.weather.speed < s.image.windyOn → t.weather.speed < s.image.stormOn → s.weather.wind = .calm →
            t.weather.wind = .calm ∧ t.weather.windHold = s.weather.windHold) ∧
          (t.weather.speed < s.image.stormOn → s.weather.wind = .storm → t.weather.speed ≤ s.image.stormOff →
            holdOver s dt → t.weather.wind = .windy ∧
              t.weather.windHold = some (s.now + dt + s.image.windyHold * 1000000)) ∧
          (t.weather.speed < s.image.windyOn → t.weather.speed < s.image.stormOn → s.weather.wind = .windy →
            t.weather.speed ≤ s.image.windyOff → holdOver s dt →
            t.weather.wind = .calm ∧ t.weather.windHold = none) ∧
          (s.weather.wind = .storm → t.weather.speed < s.image.stormOn →
            ¬ holdOver s dt ∨ s.image.stormOff < t.weather.speed →
            t.weather.wind = .storm ∧ t.weather.windHold = s.weather.windHold) ∧
          (s.weather.wind = .windy → t.weather.speed < s.image.windyOn → t.weather.speed < s.image.stormOn →
            ¬ holdOver s dt ∨ s.image.windyOff < t.weather.speed →
            t.weather.wind = .windy ∧ t.weather.windHold = s.weather.windHold)) ∧
        t.sources = { (s.tick dt).sources with weather := t.weather, windward := t.windward }) ∧
    ∀ (dt : Micros) (s : State), s.active = true →
      (∀ p, s.weather.lastPulse = some p → p + 2000000 ≤ s.now + dt →
        ∃ t, exec (.calmTimeout dt) s = .next t ∧ t.weather.history = [] ∧ t.weather.lastPulse = none ∧
          t.weather.speed = 0 ∧ t.weather.dir = s.weather.dir ∧
          (0 < s.image.windyOn → 0 < s.image.stormOn →
            (holdOver s dt → s.weather.wind = .storm → t.weather.wind = .windy ∧
              t.weather.windHold = some (s.now + dt + s.image.windyHold * 1000000)) ∧
            (holdOver s dt → s.weather.wind = .windy → t.weather.wind = .calm ∧ t.weather.windHold = none) ∧
            (¬ holdOver s dt ∨ s.weather.wind = .calm →
              t.weather.wind = s.weather.wind ∧ t.weather.windHold = s.weather.windHold)) ∧
          t.sources = { (s.tick dt).sources with weather := t.weather, windward := t.windward }) ∧
      (∀ (k : TermId) (r : Nat), s.firstTerm .windVane = some k →
        ∃ t, exec (.vaneReading dt k r) s = .next t ∧
          (r < 8 ∨ 1015 < r → t.weather.vaneFault = true ∧ t.weather.dir = none) ∧
          (8 ≤ r → r ≤ 1015 →
            t.weather.vaneFault = false ∧ t.weather.dir = some ((r * 360 / 1024 + s.image.vaneOffset) % 360)) ∧
          t.weather.speed = s.weather.speed ∧ t.weather.wind = s.weather.wind ∧
          t.sources = { (s.tick dt).sources with weather := t.weather, windward := t.windward })

/-- R109: at each period that joins, the speed is C × 10000 × n / Σ to the nearest integer, a tie to the even one, at most
600. -/
def Obligations.PulseSpeed : Prop :=
  ∀ (dt : Micros) (k : TermId) (s : State) (p : Micros), s.active = true → s.firstTerm .windPulse = some k →
    s.weather.lastPulse = some p → 2000 ≤ s.now + dt - p → s.now + dt - p < 2000000 →
    ∃ t m, exec (.anemometerPulse dt k) s = .next t ∧ t.weather.speed = min 600 m ∧
      (let a := s.image.anemometer * 10000 * t.weather.history.length
       let b := t.weather.history.sum
       2 * a ≤ 2 * m * b + b ∧ 2 * m * b ≤ 2 * a + b ∧
         (2 * a = 2 * m * b + b ∨ 2 * m * b = 2 * a + b → m % 2 = 0))

/-- R114, R119: the wind hold's expiry lets the own wind state fall one level where the latest speed is at or below its
off threshold, R115: and a source's WEATHER goes out; a persistence timer's expiry lets the windward flag take its
candidate. R118: at a WEATHER that changes the effective wind state or direction each used PRIMARY or RESERVE vent with a
facing is judged by the angle between wind and facing, below α, or below α + 10 where its candidate was windward already;
R119: the flag takes the candidate at once where judging begins or ends, and else after 20 s in which it differs. R119: as
fire mode begins, every flag takes its candidate at once. -/
def Obligations.WindTimersPass : Prop :=
  ∀ (dt : Micros) (s : State) (e : Micros), s.active = true → e ≤ s.now + dt →
    (s.weather.windHold = some e → ∃ t, exec (.windHoldExpiry dt) s = .next t ∧
      (s.weather.wind = .storm → s.weather.speed ≤ s.image.stormOff →
        t.weather.wind = .windy ∧ t.weather.windHold = some (s.now + dt + s.image.windyHold * 1000000)) ∧
      (s.weather.wind = .windy → s.weather.speed ≤ s.image.windyOff →
        t.weather.wind = .calm ∧ t.weather.windHold = none) ∧
      (s.weather.wind = .storm ∧ s.image.stormOff < s.weather.speed ∨
          s.weather.wind = .windy ∧ s.image.windyOff < s.weather.speed →
        t.weather.wind = s.weather.wind ∧ t.weather.windHold = none) ∧
      (s.boot.station = .run → s.isSource = true → s.line.state = .ok → s.line.waiting = [] → s.line.tx = none →
        t.weather.wind ≠ s.weather.wind → ∃ q ∈ t.line.waiting, q.frame = .weather
          { speed := s.weather.speed, dir := s.weather.dir.getD 65535, wind := t.weather.wind, rain := s.weather.rain,
            vaneFault := s.weather.vaneFault }) ∧
      t.weather.speed = s.weather.speed ∧
      t.sources = { (s.tick dt).sources with weather := t.weather, windward := t.windward }) ∧
    (∀ v : VentId, s.windward[v].persist = some e → ∃ t, exec (.persistenceExpiry dt v) s = .next t ∧
      t.windward[v] = { s.windward[v] with flag := s.windward[v].candidate, persist := none } ∧
      (∀ w : VentId, w ≠ v → t.windward[w] = s.windward[w]) ∧
      t.sources = { (s.tick dt).sources with windward := t.windward }) ∧
    let judging := fun x : State =>
      (x.weather.effWind = .known .windy ∨ x.weather.effWind = .known .storm) ∧ x.weather.effDir.isSome = true
    let windward := fun (x : State) (v : VentId) => judging x ∧ ∃ w f, x.weather.effDir = some w ∧ s.used v = true ∧
      ((s.cfg v).role = .primary ∨ (s.cfg v).role = .reserve) ∧ (s.cfg v).facing = some f ∧
      let d := if w ≤ f then f - w else w - f
      (if 180 < d then 360 - d else d) < s.image.alpha + if s.windward[v].candidate then 10 else 0
    (∀ (q : Nat) (src : StationNode) (c : WeatherContent), src.val ≠ s.image.node →
      ∃ t, exec (.weatherReceived dt q src c) s = .next t ∧
        (t.weather.effWind = s.weather.effWind ∧ t.weather.effDir = s.weather.effDir → t.windward = s.windward) ∧
        (¬ (t.weather.effWind = s.weather.effWind ∧ t.weather.effDir = s.weather.effDir) → ∀ v : VentId,
          (t.windward[v].candidate = true ↔ windward t v) ∧
          (judging s ∧ judging t → t.windward[v].flag = s.windward[v].flag ∧ t.windward[v].persist =
            if t.windward[v].candidate = s.windward[v].flag then none
            else some (s.windward[v].persist.getD (s.now + dt + 20000000))) ∧
          (¬ (judging s ∧ judging t) →
            t.windward[v].flag = t.windward[v].candidate ∧ t.windward[v].persist = none))) ∧
    ∀ (q : Nat) (src : StationNode) (z : Zone), (∀ o, s.peers[src] = some o → o.fresh = true) → s.fire.known = true →
      s.fire.zones = 0 → ∃ t, exec (.alarmReceived dt q src z s.fire.epoch) s = .next t ∧
        ∀ v : VentId, (t.windward[v].candidate = true ↔ windward s v) ∧
          t.windward[v].flag = t.windward[v].candidate ∧ t.windward[v].persist = none

/-! ### The vent line -/

/-- R151: a heartbeat starts the next period, 1 s in fire mode and 2 s outside it; in LINE_OK with an empty queue a STATUS
that shows every item as it stands waits (R152), R103: in fire mode an AREA with the balance figures, and R115: at a source a WEATHER
with its values. R87 to R98, R102: it makes the balance recompute, so that in a state that obeys the laws its items are
those of the state it leaves; R99 to R101: the recompute calls, by rank, the reserves its own take requires and no more, and
their FIRE records of 1000 reach the Drive Unit. (R151 and R152 do not say whether the STATUS is composed before or after the
recompute and the pre-check of the same event: that it shows SHORT, the pending class and the draws as they leave them is
the model's choice, log entry 8.) R147: in LINE_LOST, the line recessive for 10 bit times, it makes a recovery attempt, a DRAW
of the current content. (That this DRAW is on the line from the heartbeat on, and an earlier attempt stands through a heartbeat
that makes none, is the model's choice, log entry 43.) -/
def Obligations.HeartbeatSends : Prop :=
  ∀ (dt : Micros) (bits : Nat) (s : State) (e : Micros), s.boot.station = .run → s.line.heartbeat = some e →
    e ≤ s.now + dt →
    ∃ t, exec (.heartbeatExpiry dt bits) s = .next t ∧
      t.line.heartbeat = some (s.now + dt + if s.fire.zones = 0 then 2000000 else 1000000) ∧
      (s.line.state = .ok → s.line.waiting = [] → s.line.tx = none →
        ∃ c q, q ∈ t.line.waiting ∧ q.frame = .status c ∧ t.shownBy c ∧ c.zones = s.fire.zones ∧ c.epoch = s.fire.epoch ∧
          c.cause = s.line.cause ∧ c.rxErrors = s.line.rxErrors ∧ c.lineDegraded = s.line.latch) ∧
      (s.line.state = .ok → s.line.waiting = [] → s.line.tx = none →
        (∀ z : Zone, s.leadZone = some z → s.area.balance = some z →
          t.area.lastSent = some (t.areaContent z) ∧ ∃ q ∈ t.line.waiting, q.frame = .area
            { zone := z, primary := t.area.primary, offer := t.area.offer, called := t.area.called,
              achieved := t.area.achieved, sat := t.area.sat, unknown := t.area.unknown, short := t.area.short }) ∧
        (s.isSource = true → ∃ q ∈ t.line.waiting, q.frame = .weather
          { speed := s.weather.speed, dir := s.weather.dir.getD 65535, wind := s.weather.wind, rain := s.weather.rain,
            vaneFault := s.weather.vaneFault })) ∧
      (s.AreaLaw → s.ArbiterLaw → s.DriveLaw → ∀ z : Zone, s.leadZone = some z →
        t.area.balance = some z ∧ t.figuresHold z ∧ s.callsMade t z) ∧
      (s.line.state = .lost → 10 ≤ bits → t.line.recovery = some t.drawContent) ∧
      (¬ (s.line.state = .lost ∧ 10 ≤ bits) → t.line.recovery = s.line.recovery) ∧
      t.sources = { (s.tick dt).sources with line := t.line.standing } ∧
      t.line.standing = { s.line.standing with heartbeat := t.line.heartbeat }

/-- R142, R143, R148: the head of the queue begins after its class's quiet time, 4 bit times longer after an own frame,
and becomes the frame in transmission; it stays so when arbitration is lost or a bit error ends its sending, and is begun
again after the same quiet time (R143, R144). -/
def Obligations.FrameStarts : Prop :=
  ∀ (dt : Micros) (bits : Nat) (s : State), s.boot.station = .run →
    (∀ q : Queued, s.line.state = .ok → s.line.sending = false → s.line.tx = none → s.line.waiting.head? = some q →
      ∃ t, exec (.frameStart dt bits) s = .next t ∧
        (6 + 2 * q.frame.cls + (if s.line.ownLast then 4 else 0) ≤ bits →
          t.line.tx = some q ∧ t.line.waiting = s.line.waiting.tail ∧ t.line.sending = true) ∧
        (bits < 6 + 2 * q.frame.cls + (if s.line.ownLast then 4 else 0) → t.line = s.line) ∧
        t = { s with now := s.now + dt, event := s.event + 1,
                     line := { s.line with tx := t.line.tx, waiting := t.line.waiting, sending := t.line.sending } }) ∧
    (∀ q : Queued, s.line.state = .ok → s.line.sending = false → s.line.tx = some q →
      ∃ t, exec (.frameStart dt bits) s = .next t ∧
        t = { s with now := s.now + dt, event := s.event + 1,
                     line := { s.line with
                       sending := decide (6 + 2 * q.frame.cls + (if s.line.ownLast then 4 else 0) ≤ bits) } }) ∧
    ∃ t, exec (.arbitrationLost dt) s = .next t ∧
      t = { s with now := s.now + dt, event := s.event + 1,
                   line := { s.line with sending := false, recovery := none } }

/-- R144, R145: a bit error counts against the frame being sent; the third drops it and raises the consecutive failures,
and the sixteenth drop in a row mutes the line for 10 s with an empty queue. R157: a drop leaves the frame that waited
behind the dropped one of its kind and subject first among its class (with its time, log entry 40). -/
def Obligations.BitErrorsCounted : Prop :=
  ∀ (dt : Micros) (q : Queued) (s : State), s.boot.station = .run → s.line.state = .ok → s.line.sending = true →
    s.line.tx = some q → s.line.recovery = none → s.line.failures ≤ 16 →
    ∃ t, exec (.bitError dt) s = .next t ∧
      (s.line.errors < 2 → t.line.errors = s.line.errors + 1 ∧ t.line.tx = some q ∧
        t.line.failures = s.line.failures) ∧
      (s.line.errors = 2 → t.line.errors = 0 ∧ t.line.tx = none ∧ t.line.failures = min 16 (s.line.failures + 1) ∧
        (15 ≤ s.line.failures →
          t.line.state = .mute ∧ t.line.mute = some (s.now + dt + 10000000) ∧ t.line.waiting = [] ∧
            t.line.latch = true) ∧
        (s.line.failures < 15 → t.line.state = .ok ∧
          (s.QueueLaw → q.stamp ≤ s.event →
            (∃ x ∈ s.line.waiting, x.frame.kind = q.frame.kind ∧ x.frame.subject = q.frame.subject) →
            (t.line.waiting.find? fun y => y.frame.cls == q.frame.cls).map (fun y => (y.frame.kind, y.frame.subject)) =
              some (q.frame.kind, q.frame.subject)))) ∧
      t.line.sending = false ∧ t.sources = { (s.tick dt).sources with line := t.line.standing }

/-- R144, R152, R177: a frame sent without error leaves the queue, the failures return to 0 and own-last is set; a STATUS
gives up the latch and the restart cause it carried, and nothing else does. -/
def Obligations.FrameSentReports : Prop :=
  ∀ (dt : Micros) (q : Queued) (s : State), s.boot.station = .run → s.line.sending = true → s.line.tx = some q →
    ∃ t, exec (.frameSentWithoutError dt) s = .next t ∧ t.line.tx = none ∧ t.line.sending = false ∧
      t.line.errors = 0 ∧ t.line.failures = 0 ∧ t.line.ownLast = true ∧
      (∀ c, q.frame = .status c → t.line.latch = (s.line.latch && !c.lineDegraded) ∧
        t.line.cause = if c.cause.isSome then none else s.line.cause) ∧
      ((∀ c, q.frame ≠ .status c) → t.line.latch = s.line.latch ∧ t.line.cause = s.line.cause) ∧
      t.sources = { (s.tick dt).sources with line := t.line.standing }

/-- R42, R43, R75 to R78: when the DRAW that carried the announcement of the start in progress is sent, the budget is checked
again: the vent's run begins, the start is not taken where it need not move or must dwell first, or the vent waits again
(in fire mode it may be announced anew in the same event, where a call stops another channel, R70, R102); where the content is
then not that of the last DRAW, one goes out. -/
def Obligations.CommitDecides : Prop :=
  ∀ (dt : Micros) (q : Queued) (v : VentId) (id : Nat) (s : State), s.DriveLaw → s.boot.station = .run →
    s.line.state = .ok → s.uncallable v → s.line.sending = true → s.line.tx = some q → q.ann = some id →
    s.supply.start = some { vent := v, id := id } → s.supply.mark = some id →
    let fits := s.ownRunning + s.ownInrush + (s.tick dt).peerDraw + s.startDraw v ≤ s.image.feedLimit
    ∃ t, exec (.frameSentWithoutError dt) s = .next t ∧
      ((s.tick dt).wants v = none → t.vents[v].state = .idle ∧ ∀ c ∈ s.channels v, t.chans[c] = s.chans[c]) ∧
      (∀ d k, (s.tick dt).wants v = some (d, k) →
        (s.vents[v].permits d = false → t.vents[v].state = .dwell ∧ t.vents[v].dwellEnds = some (s.now + dt + 300000) ∧
          ∀ c ∈ s.channels v, t.chans[c] = s.chans[c]) ∧
        (s.vents[v].permits d = true → fits →
          t.vents[v].state = d.runState ∧ t.vents[v].lastDir = some d ∧ t.vents[v].runStart = s.now + dt ∧
          t.vents[v].runKind = some k ∧
          ∀ c ∈ s.channels v, t.chans[c].driven = some d ∧ t.chans[c].startPos = s.chans[c].estimate ∧
            t.chans[c].window = some (s.now + dt + 300000) ∧
            t.chans[c].inrush = some (s.now + dt + s.image.inrushMs * 1000)) ∧
        (s.vents[v].permits d = true → ¬ fits →
          (t.vents[v].state = .waitSupply ∨ s.fireMode = true ∧ t.vents[v].state = .announced) ∧
          t.vents[v].joinTime = s.vents[v].joinTime ∧
          ∀ c ∈ s.channels v, t.chans[c] = s.chans[c])) ∧
      (s.line.waiting = [] →
        t.drawContent ≠ s.supply.lastDraw.getD { running := 0, inrush := 0, pending := none } →
        t.drawWaits ∧ t.supply.lastDraw = some t.drawContent)

/-- R145 to R147: the mute timer's expiry, a stuck line and a recovery DRAW sent. R74, R81: with the return to LINE_OK a
DRAW of the current content waits; so it does where a received frame, after 10 bit times of quiet, ends LINE_LOST (R147) and
no call point is active, whose alarms could fill the queue. -/
def Obligations.LineStatesChange : Prop :=
  (∀ (i : Instr) (quiet : Nat) (s : State), quietBefore i = some quiet → 10 ≤ quiet → s.boot.station = .run →
    s.line.state = .lost → s.QueueLaw → (∀ (k : TermId) (z : Zone), s.fn k = .callPoint z → s.terms[k].debounced = false) →
    ∃ t, exec i s = .next t ∧ t.line.state = .ok ∧ t.line.recovery = none ∧ t.drawWaits ∧
      t.supply.lastDraw = some t.drawContent) ∧
  ∀ (dt : Micros) (s : State),
    (∀ e : Micros, s.boot.station = .run → s.line.state = .mute → s.line.mute = some e → e ≤ s.now + dt →
      ∃ t, exec (.muteTimerExpiry dt) s = .next t ∧
        t.line.standing = { s.line.standing with state := .ok, mute := none, failures := 0 } ∧
        (s.QueueLaw → t.drawWaits ∧ t.supply.lastDraw = some t.drawContent) ∧
        t.sources = { (s.tick dt).sources with line := t.line.standing }) ∧
    (s.active = true → s.line.state = .ok ∨ s.line.state = .mute → ∃ t, exec (.stuckLine dt) s = .next t ∧
      t.line = { s.line with state := .lost, waiting := [], tx := none, sending := false, errors := 0, mute := none,
                             failures := 0, ownLast := false, latch := true } ∧
      t.supply.start = none ∧ t.sources = { (s.tick dt).sources with line := t.line.standing }) ∧
    (s.boot.station = .run → s.line.state = .lost → s.line.recovery.isSome = true →
      ∃ t, exec (.recoveryDrawSent dt) s = .next t ∧
        t.line.standing = { s.line.standing with state := .ok, ownLast := true, failures := 0 } ∧
        t.line.recovery = none ∧ (s.QueueLaw → t.drawWaits ∧ t.supply.lastDraw = some t.drawContent) ∧
        t.sources = { (s.tick dt).sources with line := t.line.standing })

/-! ### Supply and peers -/

/-- R67: the station's draws, channel by channel; R72: the peer draw, entry by entry. R79: an inrush window ends: each
channel of the vent whose window is over passes from start current to running current, and R74: with an empty queue the
changed content goes out in a DRAW. (In LINE_OK, where no start is given in the same event.) -/
def Obligations.InrushEnds : Prop :=
  (∀ s : State,
    let starts := fun v : VentId => max (s.cfg v).inrush (s.cfg v).running
    let summed := fun f : VentId → ChanId → Nat =>
      (eight.map fun v => ((s.channels v).map fun c => if s.chans[c].driven = none then 0 else f v c).sum).sum
    (∀ v : VentId, s.used v = true → s.startDraw v = if (s.cfg v).tandem then 2 * starts v else starts v) ∧
      s.ownInrush = summed (fun v c => if s.chans[c].inrush = none then 0 else starts v) ∧
      s.ownRunning = summed (fun v c => if s.chans[c].inrush = none then (s.cfg v).running else 0) ∧
      s.runningCount = summed (fun _ _ => 1) ∧
      s.peerDraw = ((List.finRange 30).map fun n =>
        match s.peers[n] with
        | none => 0
        | some p => p.running + if p.inrushEnds.any fun e => decide (s.now < e) then p.inrush else 0).sum) ∧
  ∀ (dt : Micros) (v : VentId) (c : ChanId) (d : Dir) (e : Micros) (s : State), s.DriveLaw → s.boot.station = .run →
    s.line.state = .ok → c ∈ s.channels v → s.chans[c].driven = some d → s.chans[c].inrush = some e → e ≤ s.now + dt →
    ∃ t, exec (.inrushWindowEnd dt c) s = .next t ∧ t.chans[c].inrush = none ∧
      (s.uncallable v → t.chans[c] = { s.chans[c] with inrush := none } ∧ t.vents[v] = s.vents[v]) ∧
      (s.fireMode = false →
        let ended := ((s.channels v).filter fun o =>
          s.chans[o].driven.isSome && s.chans[o].inrush.any fun x => decide (x ≤ s.now + dt)).length
        t.ownRunning = s.ownRunning + ended * (s.cfg v).running ∧
          t.ownInrush + ended * max (s.cfg v).inrush (s.cfg v).running = s.ownInrush ∧ t.runningCount = s.runningCount) ∧
      (s.line.waiting = [] → s.line.tx = none → t.drawContent ≠ s.drawContent →
        t.drawContent ≠ s.supply.lastDraw.getD { running := 0, inrush := 0, pending := none } →
        t.drawWaits ∧ t.supply.lastDraw = some t.drawContent) ∧
      t.sources = (s.tick dt).sources

/-- R163 to R166: the four timers of a peer entry; R116: the effective weather follows what they leave. R68, R70, R71, R73:
with no start in progress the inrush expiry makes the scheduler check the head of the waiting set, the startable vent of
the highest class, then the earliest join, then the lowest index: within the budget, the motor count and the precedence it
is announced in a DRAW (under a number of the model's own, log entry 25); R80: with the line down, and no channel within its
inrush window, its run begins at once. -/
def Obligations.PeerTimersPass : Prop :=
  ∀ (dt : Micros) (n : StationNode) (s : State) (p : Peer), s.active = true → s.peers[n] = some p →
    (∀ e : Micros, p.inrushEnds = some e → e ≤ s.now + dt → ∃ t, exec (.peerInrushExpiry dt n) s = .next t ∧
      t.peers[n] = some { p with inrush := 0, inrushEnds := none } ∧ (∀ m : StationNode, m ≠ n → t.peers[m] = s.peers[m]) ∧
      t.sources = { (s.tick dt).sources with peers := t.peers }) ∧
    (p.fresh = true → p.heard + 5000000 ≤ s.now + dt → ∃ t, exec (.peerStale dt n) s = .next t ∧
      t.peers[n] = some { p with fresh := false } ∧ (∀ m : StationNode, m ≠ n → t.peers[m] = s.peers[m]) ∧
      t.fire = s.fire ∧ t.line.standing = s.line.standing ∧ t.weatherFormed) ∧
    (p.heard + 30000000 ≤ s.now + dt → ∃ t, exec (.peerEviction dt n) s = .next t ∧
      t.peers[n] = none ∧ (∀ m : StationNode, m ≠ n → t.peers[m] = s.peers[m]) ∧
      t.fire = s.fire ∧ t.line.standing = s.line.standing ∧ t.weatherFormed) ∧
    (∀ w : PeerWeather, p.weather = some w → w.heard + 5000000 ≤ s.now + dt →
      ∃ t, exec (.weatherRecordAge dt n) s = .next t ∧
        t.peers[n] = some { p with weather := none } ∧ (∀ m : StationNode, m ≠ n → t.peers[m] = s.peers[m]) ∧
        t.fire = s.fire ∧ t.line.standing = s.line.standing ∧ t.weatherFormed) ∧
    ∀ (v : VentId) (e : Micros), s.DriveLaw → s.boot.station = .run → s.supply.start = none → p.inrushEnds = some e →
      e ≤ s.now + dt →
      let rank := fun w : VentId => classRank s.vents[w].cls
      let waits := fun w : VentId => s.used w = true ∧ s.vents[w].state = .waitSupply ∧
        s.startDraw w ≤ s.image.feedLimit ∧ (s.channels w).length ≤ s.image.maxMotors
      waits v →
      (∀ w : VentId, waits w → w ≠ v → rank w < rank v ∨ rank w = rank v ∧
        (s.vents[v].joinTime < s.vents[w].joinTime ∨ s.vents[v].joinTime = s.vents[w].joinTime ∧ v < w)) →
      ∃ t, exec (.peerInrushExpiry dt n) s = .next t ∧
        let passes := s.ownRunning + s.ownInrush + t.peerDraw + s.startDraw v ≤ s.image.feedLimit ∧
          s.runningCount + (s.channels v).length ≤ s.image.maxMotors ∧
          ∀ (m : StationNode) (o : Peer) (k : DemandClass), t.peers[m] = some o → o.fresh = true → o.pending = some k →
            classRank k ≤ rank v
        let calm := ∀ (w : VentId) (c : ChanId), c ∈ s.channels w → s.chans[c].driven = none ∨ s.chans[c].inrush = none
        let stays := t.vents = s.vents ∧ t.chans = s.chans ∧ t.supply = s.supply
        (s.line.state = .ok → ¬ passes → stays) ∧
        (s.line.state = .ok → s.line.waiting = [] → s.line.tx = none → passes →
          t.vents[v].state = .announced ∧ t.supply.start = some { vent := v, id := s.supply.nextId } ∧
          t.supply.mark = some s.supply.nextId ∧ t.supply.lastDraw = some t.drawContent ∧
          t.drawContent.inrush = t.ownInrush + s.startDraw v ∧
          ∃ q ∈ t.line.waiting, q.ann = some s.supply.nextId ∧ q.frame = .draw t.drawContent) ∧
        (s.line.state = .mute ∨ s.line.state = .lost →
          (¬ (passes ∧ calm) → stays) ∧
          (passes → calm → s.uncallable v → ∀ d k, (s.tick dt).wants v = some (d, k) → s.vents[v].permits d = true →
            t.supply.start = none ∧ t.vents[v].state = d.runState ∧ t.vents[v].runKind = some k ∧
            t.vents[v].runStart = s.now + dt ∧ t.vents[v].lastDir = some d ∧
            ∀ c ∈ s.channels v, t.chans[c].driven = some d ∧
              t.chans[c].inrush = some (s.now + dt + s.image.inrushMs * 1000)))

/-! ### The Drive Unit -/

/-- R51: a short on a driven channel stops every channel of the vent at the estimate R44 gives (`reached`,
log entry 11), raises the intermediate-stop count and locks the vent with SHORT; the retry count stays. (That a CHANNEL_CURRENT_READING of 12 A or
more is such a short is the model's reading, log entry 22.) -/
def Obligations.ShortLocks : Prop :=
  ∀ (dt : Micros) (v : VentId) (c : ChanId) (d : Dir) (s : State), s.DriveLaw → s.boot.station = .run →
    c ∈ s.channels v → s.chans[c].driven = some d →
    ∀ i : Instr, (i = .shortDetected dt c ∨ ∃ m, 12000 ≤ m ∧ i = .channelCurrentReading dt c m) →
    ∃ t, exec i s = .next t ∧ t.vents[v].state = .locked ∧ t.vents[v].fault = .short ∧
      t.vents[v].stops = (if s.vents[v].stops < 8 then s.vents[v].stops + 1 else s.vents[v].stops) ∧
      t.vents[v].retries = s.vents[v].retries ∧
      (∀ e ∈ s.channels v, t.chans[e].driven = none ∧ t.chans[e].estimate = s.reached dt v e) ∧
      t.sources = (s.tick dt).sources

/-- R50: a stall stops the vent's channels; with retries left it is STALLED for 5 s, the fourth stall locks it. -/
def Obligations.StallCounts : Prop :=
  ∀ (dt : Micros) (v : VentId) (c : ChanId) (d : Dir) (e : Micros) (s : State), s.DriveLaw → s.ArbiterLaw →
    s.boot.station = .run → c ∈ s.channels v → s.chans[c].driven = some d → s.chans[c].stallFilter = some e →
    e ≤ s.now + dt →
    ∃ t, exec (.stallFilterExpiry dt c) s = .next t ∧
      (s.vents[v].retries < 3 → t.vents[v].state = .stalled ∧ t.vents[v].retries = s.vents[v].retries + 1 ∧
        t.vents[v].coolEnds = some (s.now + dt + 5000000)) ∧
      (3 ≤ s.vents[v].retries → t.vents[v].state = .locked ∧ t.vents[v].fault = .stallLimit ∧
        t.vents[v].retries = s.vents[v].retries) ∧
      t.vents[v].stops = (if s.vents[v].stops < 8 then s.vents[v].stops + 1 else s.vents[v].stops) ∧
      (∀ e ∈ s.channels v, t.chans[e].driven = none ∧ t.chans[e].estimate = s.reached dt v e) ∧
      t.sources = (s.tick dt).sources

/-- R46, R48, R49: an end filter that expires, or a start window that closes without current at an UNKNOWN run start
position or within 50 of the end, anchors the channel at exactly its end; one that closes without current elsewhere
locks the vent as OPEN_CIRCUIT with the channel back at its run start position and a tandem partner stopped at the
estimate R44 gives. R49, R50: one that closes after current was drawn leaves the two filters to the reading as it stands.
(In LINE_OK, where no start is given in the same event. That a partner with no current either gets no verdict of its own is
the model's choice, log entry 41.) -/
def Obligations.ChannelAnchors : Prop :=
  ∀ (dt : Micros) (v : VentId) (c : ChanId) (d : Dir) (e : Micros) (s : State), s.DriveLaw → s.boot.station = .run →
    s.line.state = .ok → c ∈ s.channels v → s.chans[c].driven = some d → e ≤ s.now + dt →
    (s.chans[c].endFilter = some e → ∃ t, exec (.endFilterExpiry dt c) s = .next t ∧ t.chans[c].driven = none ∧
      t.chans[c].estimate = some (match d with | .opening => 1000 | .closing => 0) ∧
      ((∀ o ∈ s.channels v, o ≠ c → s.chans[o].driven = none) → t.vents[v].stops = 0 ∧ t.vents[v].retries = 0)) ∧
    (s.chans[c].window = some e → s.chans[c].drew = false →
      (∀ p, s.chans[c].startPos = some p → match d with | .opening => 950 ≤ p | .closing => p ≤ 50) →
      ∃ t, exec (.startWindowEnd dt c) s = .next t ∧ t.chans[c].driven = none ∧
        t.chans[c].estimate = some (match d with | .opening => 1000 | .closing => 0)) ∧
    (∀ p, s.chans[c].window = some e → s.chans[c].drew = false → s.chans[c].startPos = some p →
      (match d with | .opening => p < 950 | .closing => 50 < p) →
      ∃ t, exec (.startWindowEnd dt c) s = .next t ∧ t.vents[v].state = .locked ∧ t.vents[v].fault = .openCircuit ∧
        t.chans[c].driven = none ∧ t.chans[c].estimate = some p ∧ t.vents[v].stops = s.vents[v].stops ∧
        ∀ o ∈ s.channels v, o ≠ c → t.chans[o].driven = none ∧ t.chans[o].estimate = s.reached dt v o) ∧
    (s.chans[c].window = some e → s.chans[c].drew = true → ∃ t, exec (.startWindowEnd dt c) s = .next t ∧
      t.chans[c] = { s.chans[c] with
        window := none,
        endFilter :=
          (if s.chans[c].reading < 50 then some (s.chans[c].endFilter.getD (s.now + dt + 200000)) else none),
        stallFilter :=
          (if (s.cfg v).stall * 100 ≤ s.chans[c].reading then some (s.chans[c].stallFilter.getD (s.now + dt + 500000))
          else none) } ∧
      (∀ o : ChanId, o ≠ c → t.chans[o] = s.chans[o]) ∧ t.vents = s.vents ∧ t.sources = (s.tick dt).sources)

/-- R45, R52: at the stop time the driven channels stand at exactly P; at the run limit they are UNKNOWN and the vent is
locked with RUN_TIMEOUT. (The first in LINE_OK, where no start is given in the same event.) R54 to R56: what an OVERRIDE
makes of a vent that runs: HOLD stops it, the end it runs to lets it run there, the other end makes it dwell. R83: a HOLD at
the moment at which a commit check began the run finds the start not taken (what that moment is, is the model's choice, log
entry 35). What an intermediate COMFORT target makes of it: an anchoring run, and a run to an end with re-anchoring due, go
on to the end; else the run ends at the target, goes on to it, or dwells where it lies behind (log entries 12 and 13). -/
def Obligations.RunEnds : Prop :=
  ∀ (dt : Micros) (v : VentId) (s : State), s.DriveLaw → s.boot.station = .run →
    (∀ (p : Nat) (e : Micros), s.line.state = .ok → s.vents[v].state = .runOpen ∨ s.vents[v].state = .runClose →
      s.vents[v].stopTime = some e → e ≤ s.now + dt → s.vents[v].target = .pos p →
      ∃ t, exec (.stopTimeReached dt v) s = .next t ∧ t.vents[v].retries = 0 ∧
        t.vents[v].stops = (if s.vents[v].stops < 8 then s.vents[v].stops + 1 else s.vents[v].stops) ∧
        ∀ c ∈ s.channels v, t.chans[c].driven = none ∧
          t.chans[c].estimate = if s.chans[c].driven.isSome then some p else s.chans[c].estimate) ∧
    (∀ d : Dir, s.vents[v].state = d.runState → s.vents[v].runKind = some .toEnd ∨ s.vents[v].runKind = some .anchoring →
      s.vents[v].runStart + ((match d with | .opening => (s.cfg v).openTime | .closing => (s.cfg v).closeTime) * 150 + 2000)
          * 1000 ≤ s.now + dt →
      ∃ t, exec (.runLimitReached dt v) s = .next t ∧ t.vents[v].state = .locked ∧ t.vents[v].fault = .runTimeout ∧
        ∀ c ∈ s.channels v, t.chans[c].driven = none ∧
          t.chans[c].estimate = if s.chans[c].driven.isSome then none else s.chans[c].estimate) ∧
    (∀ (d : Dir) (i : Instr) (x : Target), s.ArbiterLaw → s.used v = true → s.vents[v].state = d.runState →
      s.vents[v].target ≠ x →
      (∃ q sc, (sc = .all ∨ sc = .zone (s.cfg v).home ∨ sc = .station s.image.node ∨ sc = .vent s.image.node v.val) ∧
        (i = .overrideOpen dt q sc ∧ x = .pos 1000 ∨ i = .overrideClose dt q sc ∧ x = .pos 0 ∨
          i = .overrideHold dt q sc ∧ x = .hold)) →
      ∃ t, exec i s = .next t ∧ t.vents[v].target = x ∧ t.vents[v].retries = s.vents[v].retries ∧
        (x = .hold → t.vents[v].state = .idle ∧ s.stoppedIn t dt v ∧
          (∀ old, s.vents[v].runStart = s.now + dt → s.vents[v].committed = some old →
            t.vents[v].lastDir = old ∧ t.vents[v].stops = s.vents[v].stops) ∧
          (s.vents[v].runStart ≠ s.now + dt ∨ s.vents[v].committed = none →
            t.vents[v].lastDir = s.vents[v].lastDir ∧ t.vents[v].stops = s.stopCounted v)) ∧
        (x = .pos (match d with | .opening => 1000 | .closing => 0) →
          s.goesOnIn t v .toEnd ∧ t.vents[v].stopTime = none ∧ t.vents[v].stops = s.vents[v].stops) ∧
        (x = .pos (match d with | .opening => 0 | .closing => 1000) →
          s.dwellsIn t dt v ∧ t.vents[v].stops = s.stopCounted v)) ∧
    ∀ (d : Dir) (q : Nat) (zones : ZoneSet) (p hold : Nat), s.ArbiterLaw → s.used v = true →
      s.vents[v].state = d.runState → s.mains.battery = false → (s.cfg v).comfort = true →
      memberOf (s.cfg v).home zones = true → 0 < p → p < 1000 → s.vents[v].target ≠ .pos p →
      s.demand[v].brigade = none → s.demand[v].fire = none → s.demand[v].weather = none → s.demand[v].manual = none →
      let pos := s.reached dt v
      let reanchor := (∃ c ∈ s.channels v, pos c = none) ∨ (∃ c ∈ s.channels v, ∃ e ∈ s.channels v, pos c ≠ pos e) ∨
        s.vents[v].stops = 8
      let anchors := s.vents[v].runKind = some .anchoring ∨ s.vents[v].runKind = some .toEnd ∧ reanchor
      ∃ t, exec (.comfortReceived dt q zones p hold) s = .next t ∧ t.vents[v].target = .pos p ∧
        (anchors → s.goesOnIn t v .anchoring ∧ t.vents[v].stops = s.vents[v].stops) ∧
        (¬ anchors → s.vents[v].runKind.isSome = true → ∀ x, (s.tick dt).ventPos v = some x →
          (x = p → s.line.state = .ok → t.vents[v].retries = 0 ∧ t.vents[v].stops = s.stopCounted v ∧
            ∀ c ∈ s.channels v, t.chans[c].driven = none ∧
              t.chans[c].estimate = if s.chans[c].driven.isSome then some p else s.chans[c].estimate) ∧
          ((match d with | .opening => x < p | .closing => p < x) →
            s.goesOnIn t v .toStop ∧ t.vents[v].stops = s.vents[v].stops ∧
            ∀ p0, (∀ c ∈ s.channels v, s.chans[c].driven = some d ∧ s.chans[c].startPos = some p0) →
              t.vents[v].stopTime = some (s.vents[v].runStart +
                ((if p0 ≤ p then p - p0 else p0 - p) *
                  (match d with | .opening => (s.cfg v).openTime | .closing => (s.cfg v).closeTime) * 100 + 999) / 1000
                  * 1000)) ∧
          ((match d with | .opening => p < x | .closing => x < p) →
            s.dwellsIn t dt v ∧ t.vents[v].stops = s.stopCounted v ∧ t.vents[v].retries = s.vents[v].retries))

/-- R39: what a used vent wants, row by row, at the positions R44 gives; R37: the position of a vent is the smaller of its
channels' positions, UNKNOWN where one is. R57, R58: a DWELL or a cool-down expires: the vent rests where it does not need to move, waits for supply or is
announced where it may, and from the cool-down dwells where it must reverse. (In LINE_OK, where no start is given in the
same event.) -/
def Obligations.DwellAndCoolDown : Prop :=
  (∀ (dt : Micros) (v : VentId) (s : State), s.used v = true →
    let pos := s.reached dt v
    let want := (s.tick dt).wants v
    let away := fun x : Nat => ∃ c ∈ s.channels v, pos c ≠ some x
    let reanchor := (∃ c ∈ s.channels v, pos c = none) ∨ (∃ c ∈ s.channels v, ∃ e ∈ s.channels v, pos c ≠ pos e) ∨
      s.vents[v].stops = 8 ∧ s.vents[v].cls ≠ .fire ∧ s.vents[v].cls ≠ .brigade
    (s.vents[v].target = .hold → want = none) ∧
      (s.vents[v].target = .pos 0 → (away 0 → want = some (.closing, .toEnd)) ∧ (¬ away 0 → want = none)) ∧
      (s.vents[v].target = .pos 1000 → (away 1000 → want = some (.opening, .toEnd)) ∧ (¬ away 1000 → want = none)) ∧
      (∀ p, 0 < p → p < 1000 → s.vents[v].target = .pos p →
        (reanchor → want = some (if p ≤ 500 then .closing else .opening, .anchoring)) ∧
        (¬ reanchor → ∀ q, (∀ c ∈ s.channels v, pos c = some q) →
          (q = p → want = none) ∧ (q < p → want = some (.opening, .toStop)) ∧ (p < q → want = some (.closing, .toStop)))) ∧
      ((s.tick dt).ventPos v = none ↔ ∃ c ∈ s.channels v, pos c = none) ∧
      ∀ q, (s.tick dt).ventPos v = some q →
        (∃ c ∈ s.channels v, pos c = some q) ∧ ∀ c ∈ s.channels v, ∃ r, pos c = some r ∧ q ≤ r) ∧
  ∀ (dt : Micros) (v : VentId) (e : Micros) (s : State), s.DriveLaw → s.boot.station = .run →
    s.line.state = .ok → s.uncallable v → s.used v = true → e ≤ s.now + dt →
    (s.vents[v].state = .dwell → s.vents[v].dwellEnds = some e → ∃ t, exec (.dwellExpiry dt v) s = .next t ∧
      t.vents[v].lastDir = none ∧ ((s.tick dt).wants v = none → t.vents[v].state = .idle) ∧
      ((s.tick dt).wants v ≠ none → (t.vents[v].state = .waitSupply ∨ t.vents[v].state = .announced) ∧
        t.vents[v].joinTime = s.now + dt)) ∧
    (s.vents[v].state = .stalled → s.vents[v].coolEnds = some e → ∃ t, exec (.coolDownExpiry dt v) s = .next t ∧
      t.vents[v].lastDir = s.vents[v].lastDir ∧ t.vents[v].retries = s.vents[v].retries ∧
      ((s.tick dt).wants v = none → t.vents[v].state = .idle) ∧
      (∀ d k, (s.tick dt).wants v = some (d, k) → s.vents[v].permits d = true →
        t.vents[v].state = .waitSupply ∨ t.vents[v].state = .announced) ∧
      (∀ d k, (s.tick dt).wants v = some (d, k) → s.vents[v].permits d = false →
        t.vents[v].state = .dwell ∧ t.vents[v].dwellEnds = some (s.now + dt + 300000)))

/-- R48 to R50: a reading below the short threshold rules out the start window's verdict, or starts, keeps or stops the
two filters. -/
def Obligations.ReadingFilters : Prop :=
  ∀ (dt : Micros) (v : VentId) (c : ChanId) (d : Dir) (m : Nat) (s : State), s.DriveLaw →
    s.boot.station = .run → c ∈ s.channels v → s.chans[c].driven = some d → m < 12000 →
    ∃ t, exec (.channelCurrentReading dt c m) s = .next t ∧ t.chans[c].reading = m ∧ t.chans[c].driven = some d ∧
      (s.chans[c].window.isSome = true → t.chans[c].drew = (s.chans[c].drew || decide (50 ≤ m)) ∧
        t.chans[c].endFilter = s.chans[c].endFilter ∧ t.chans[c].stallFilter = s.chans[c].stallFilter) ∧
      (s.chans[c].window = none →
        t.chans[c].endFilter = (if m < 50 then some (s.chans[c].endFilter.getD (s.now + dt + 200000)) else none) ∧
        t.chans[c].stallFilter =
          (if (s.cfg v).stall * 100 ≤ m then some (s.chans[c].stallFilter.getD (s.now + dt + 500000)) else none)) ∧
      (∀ o : ChanId, o ≠ c → t.chans[o] = s.chans[o]) ∧ t.vents = s.vents ∧ t.sources = (s.tick dt).sources

/-! ### The arbiter and the balance -/

/-- R22: the effective demand is that of the highest class present, and DEFAULT with target 0 where none is. -/
def Obligations.HighestClassRules : Prop :=
  ∀ r : Records,
    let slot : DemandClass → Option Record := fun c =>
      match c with
      | .brigade => r.brigade
      | .fire => r.fire
      | .weather => r.weather
      | .manual => r.manual
      | .comfort => r.comfort
      | .default => none
    (∀ (c : DemandClass) (x : Record), slot c = some x →
      classRank c ≤ classRank r.effective.2 ∧ (r.effective.2 = c → r.effective.1 = x.target)) ∧
    ((∀ c, slot c = none) → r.effective = (.pos 0, .default)) ∧
    (r.effective.2 ≠ .default → (slot r.effective.2).isSome = true)

/-- R96, R97: the stations of the walk are the own one and the FRESH peers with an area record for the zone, in ascending
node number. R97, R98: the takes of the walk add up, with what remains, to the deficit; each is the smaller of its station's
offer and what the stations before it leave; and something remains only when every offer is taken whole. R99, R100: a take
of 0 calls none; another calls eligible vents by rank, then by index, each only while the call sum is short of the take, and
stops with the take met or every eligible vent called. (That a recompute makes these calls is said of the heartbeat and of
OVERRIDE, `callsMade` in HeartbeatSends and OverrideWrites.) -/
def Obligations.TakesAndCalls : Prop :=
  (∀ (s : State) (z : Zone) (primary offer : Nat),
      (s.shares z primary offer).Pairwise (fun a b => a.node < b.node) ∧
        ∀ x : Share, x ∈ s.shares z primary offer ↔ ∃ n : StationNode, x.node = n.val ∧
          if n.val = s.image.node then x.primary = primary ∧ x.offer = offer
          else ∃ p a, s.peers[n] = some p ∧ p.fresh = true ∧ p.area = some a ∧ a.zone = z ∧
            x.primary = a.primary ∧ x.offer = a.offer) ∧
    (∀ (rem : Nat) (l : List Share), l.Pairwise (fun a b => a.node ≠ b.node) →
      (∀ own : Nat,
        (l.map fun x => (walk x.node rem l).1).sum + (walk own rem l).2 = rem ∧
          (∀ x ∈ l, (walk x.node rem l).1 ≤ x.offer) ∧
          (0 < (walk own rem l).2 → ∀ x ∈ l, (walk x.node rem l).1 = x.offer)) ∧
      ∀ (before after : List Share) (x : Share), l = before ++ x :: after →
        (walk x.node rem l).1 = min x.offer (rem - (before.map Share.offer).sum)) ∧
    ∀ (s : State) (z : Zone) (take : Nat),
      let set := s.callsFor z take
      let newly := fun v : VentId => memberOf v set = true ∧ memberOf v s.area.calledSet = false
      let ahead := fun w v : VentId =>
        (s.cfg w).rank < (s.cfg v).rank ∨ (s.cfg w).rank = (s.cfg v).rank ∧ w < v
      (∀ v : VentId, memberOf v s.area.calledSet = true → memberOf v set = true) ∧
        (∀ v : VentId, newly v → s.eligible z v = true) ∧
        (take = 0 → set = s.area.calledSet) ∧
        (∀ v w : VentId, newly v → s.eligible z w = true → ahead w v → memberOf w set = true) ∧
        (∀ v : VentId, newly v →
          (sumOver fun w => if s.eligible z w = true ∧ memberOf w set = true ∧
            (memberOf w s.area.calledSet = true ∨ ahead w v) then (s.cfg w).product 1000 else 0) < take * 256000) ∧
        (0 < take →
          take * 256000 ≤ (sumOver fun v => if s.eligible z v && memberOf v set then (s.cfg v).product 1000 else 0) ∨
            ∀ v : VentId, s.eligible z v = true → memberOf v set = true)
end

