-- ==== Sys2Proof/Laws/State.lean ====
section
/-! SUPPORT. One lemma per field per update of State, so that no proof unfolds a record update. -/

namespace Sys2Proof.Machine

@[simp] theorem State.withNow_now (s : State) x : (s.withNow x).now = x := rfl
@[simp] theorem State.withNow_event (s : State) x : (s.withNow x).event = s.event := rfl
@[simp] theorem State.withNow_pending (s : State) x : (s.withNow x).pending = s.pending := rfl
@[simp] theorem State.withNow_boot (s : State) x : (s.withNow x).boot = s.boot := rfl
@[simp] theorem State.withNow_image (s : State) x : (s.withNow x).image = s.image := rfl
@[simp] theorem State.withNow_fire (s : State) x : (s.withNow x).fire = s.fire := rfl
@[simp] theorem State.withNow_demand (s : State) x : (s.withNow x).demand = s.demand := rfl
@[simp] theorem State.withNow_vents (s : State) x : (s.withNow x).vents = s.vents := rfl
@[simp] theorem State.withNow_chans (s : State) x : (s.withNow x).chans = s.chans := rfl
@[simp] theorem State.withNow_retention (s : State) x : (s.withNow x).retention = s.retention := rfl
@[simp] theorem State.withNow_supply (s : State) x : (s.withNow x).supply = s.supply := rfl
@[simp] theorem State.withNow_area (s : State) x : (s.withNow x).area = s.area := rfl
@[simp] theorem State.withNow_weather (s : State) x : (s.withNow x).weather = s.weather := rfl
@[simp] theorem State.withNow_windward (s : State) x : (s.withNow x).windward = s.windward := rfl
@[simp] theorem State.withNow_terms (s : State) x : (s.withNow x).terms = s.terms := rfl
@[simp] theorem State.withNow_pins (s : State) x : (s.withNow x).pins = s.pins := rfl
@[simp] theorem State.withNow_mains (s : State) x : (s.withNow x).mains = s.mains := rfl
@[simp] theorem State.withNow_outputs (s : State) x : (s.withNow x).outputs = s.outputs := rfl
@[simp] theorem State.withNow_line (s : State) x : (s.withNow x).line = s.line := rfl
@[simp] theorem State.withNow_peers (s : State) x : (s.withNow x).peers = s.peers := rfl

@[simp] theorem State.withEvent_now (s : State) x : (s.withEvent x).now = s.now := rfl
@[simp] theorem State.withEvent_event (s : State) x : (s.withEvent x).event = x := rfl
@[simp] theorem State.withEvent_pending (s : State) x : (s.withEvent x).pending = s.pending := rfl
@[simp] theorem State.withEvent_boot (s : State) x : (s.withEvent x).boot = s.boot := rfl
@[simp] theorem State.withEvent_image (s : State) x : (s.withEvent x).image = s.image := rfl
@[simp] theorem State.withEvent_fire (s : State) x : (s.withEvent x).fire = s.fire := rfl
@[simp] theorem State.withEvent_demand (s : State) x : (s.withEvent x).demand = s.demand := rfl
@[simp] theorem State.withEvent_vents (s : State) x : (s.withEvent x).vents = s.vents := rfl
@[simp] theorem State.withEvent_chans (s : State) x : (s.withEvent x).chans = s.chans := rfl
@[simp] theorem State.withEvent_retention (s : State) x : (s.withEvent x).retention = s.retention := rfl
@[simp] theorem State.withEvent_supply (s : State) x : (s.withEvent x).supply = s.supply := rfl
@[simp] theorem State.withEvent_area (s : State) x : (s.withEvent x).area = s.area := rfl
@[simp] theorem State.withEvent_weather (s : State) x : (s.withEvent x).weather = s.weather := rfl
@[simp] theorem State.withEvent_windward (s : State) x : (s.withEvent x).windward = s.windward := rfl
@[simp] theorem State.withEvent_terms (s : State) x : (s.withEvent x).terms = s.terms := rfl
@[simp] theorem State.withEvent_pins (s : State) x : (s.withEvent x).pins = s.pins := rfl
@[simp] theorem State.withEvent_mains (s : State) x : (s.withEvent x).mains = s.mains := rfl
@[simp] theorem State.withEvent_outputs (s : State) x : (s.withEvent x).outputs = s.outputs := rfl
@[simp] theorem State.withEvent_line (s : State) x : (s.withEvent x).line = s.line := rfl
@[simp] theorem State.withEvent_peers (s : State) x : (s.withEvent x).peers = s.peers := rfl

@[simp] theorem State.withPending_now (s : State) x : (s.withPending x).now = s.now := rfl
@[simp] theorem State.withPending_event (s : State) x : (s.withPending x).event = s.event := rfl
@[simp] theorem State.withPending_pending (s : State) x : (s.withPending x).pending = x := rfl
@[simp] theorem State.withPending_boot (s : State) x : (s.withPending x).boot = s.boot := rfl
@[simp] theorem State.withPending_image (s : State) x : (s.withPending x).image = s.image := rfl
@[simp] theorem State.withPending_fire (s : State) x : (s.withPending x).fire = s.fire := rfl
@[simp] theorem State.withPending_demand (s : State) x : (s.withPending x).demand = s.demand := rfl
@[simp] theorem State.withPending_vents (s : State) x : (s.withPending x).vents = s.vents := rfl
@[simp] theorem State.withPending_chans (s : State) x : (s.withPending x).chans = s.chans := rfl
@[simp] theorem State.withPending_retention (s : State) x : (s.withPending x).retention = s.retention := rfl
@[simp] theorem State.withPending_supply (s : State) x : (s.withPending x).supply = s.supply := rfl
@[simp] theorem State.withPending_area (s : State) x : (s.withPending x).area = s.area := rfl
@[simp] theorem State.withPending_weather (s : State) x : (s.withPending x).weather = s.weather := rfl
@[simp] theorem State.withPending_windward (s : State) x : (s.withPending x).windward = s.windward := rfl
@[simp] theorem State.withPending_terms (s : State) x : (s.withPending x).terms = s.terms := rfl
@[simp] theorem State.withPending_pins (s : State) x : (s.withPending x).pins = s.pins := rfl
@[simp] theorem State.withPending_mains (s : State) x : (s.withPending x).mains = s.mains := rfl
@[simp] theorem State.withPending_outputs (s : State) x : (s.withPending x).outputs = s.outputs := rfl
@[simp] theorem State.withPending_line (s : State) x : (s.withPending x).line = s.line := rfl
@[simp] theorem State.withPending_peers (s : State) x : (s.withPending x).peers = s.peers := rfl

@[simp] theorem State.withBoot_now (s : State) x : (s.withBoot x).now = s.now := rfl
@[simp] theorem State.withBoot_event (s : State) x : (s.withBoot x).event = s.event := rfl
@[simp] theorem State.withBoot_pending (s : State) x : (s.withBoot x).pending = s.pending := rfl
@[simp] theorem State.withBoot_boot (s : State) x : (s.withBoot x).boot = x := rfl
@[simp] theorem State.withBoot_image (s : State) x : (s.withBoot x).image = s.image := rfl
@[simp] theorem State.withBoot_fire (s : State) x : (s.withBoot x).fire = s.fire := rfl
@[simp] theorem State.withBoot_demand (s : State) x : (s.withBoot x).demand = s.demand := rfl
@[simp] theorem State.withBoot_vents (s : State) x : (s.withBoot x).vents = s.vents := rfl
@[simp] theorem State.withBoot_chans (s : State) x : (s.withBoot x).chans = s.chans := rfl
@[simp] theorem State.withBoot_retention (s : State) x : (s.withBoot x).retention = s.retention := rfl
@[simp] theorem State.withBoot_supply (s : State) x : (s.withBoot x).supply = s.supply := rfl
@[simp] theorem State.withBoot_area (s : State) x : (s.withBoot x).area = s.area := rfl
@[simp] theorem State.withBoot_weather (s : State) x : (s.withBoot x).weather = s.weather := rfl
@[simp] theorem State.withBoot_windward (s : State) x : (s.withBoot x).windward = s.windward := rfl
@[simp] theorem State.withBoot_terms (s : State) x : (s.withBoot x).terms = s.terms := rfl
@[simp] theorem State.withBoot_pins (s : State) x : (s.withBoot x).pins = s.pins := rfl
@[simp] theorem State.withBoot_mains (s : State) x : (s.withBoot x).mains = s.mains := rfl
@[simp] theorem State.withBoot_outputs (s : State) x : (s.withBoot x).outputs = s.outputs := rfl
@[simp] theorem State.withBoot_line (s : State) x : (s.withBoot x).line = s.line := rfl
@[simp] theorem State.withBoot_peers (s : State) x : (s.withBoot x).peers = s.peers := rfl

@[simp] theorem State.withImage_now (s : State) x : (s.withImage x).now = s.now := rfl
@[simp] theorem State.withImage_event (s : State) x : (s.withImage x).event = s.event := rfl
@[simp] theorem State.withImage_pending (s : State) x : (s.withImage x).pending = s.pending := rfl
@[simp] theorem State.withImage_boot (s : State) x : (s.withImage x).boot = s.boot := rfl
@[simp] theorem State.withImage_image (s : State) x : (s.withImage x).image = x := rfl
@[simp] theorem State.withImage_fire (s : State) x : (s.withImage x).fire = s.fire := rfl
@[simp] theorem State.withImage_demand (s : State) x : (s.withImage x).demand = s.demand := rfl
@[simp] theorem State.withImage_vents (s : State) x : (s.withImage x).vents = s.vents := rfl
@[simp] theorem State.withImage_chans (s : State) x : (s.withImage x).chans = s.chans := rfl
@[simp] theorem State.withImage_retention (s : State) x : (s.withImage x).retention = s.retention := rfl
@[simp] theorem State.withImage_supply (s : State) x : (s.withImage x).supply = s.supply := rfl
@[simp] theorem State.withImage_area (s : State) x : (s.withImage x).area = s.area := rfl
@[simp] theorem State.withImage_weather (s : State) x : (s.withImage x).weather = s.weather := rfl
@[simp] theorem State.withImage_windward (s : State) x : (s.withImage x).windward = s.windward := rfl
@[simp] theorem State.withImage_terms (s : State) x : (s.withImage x).terms = s.terms := rfl
@[simp] theorem State.withImage_pins (s : State) x : (s.withImage x).pins = s.pins := rfl
@[simp] theorem State.withImage_mains (s : State) x : (s.withImage x).mains = s.mains := rfl
@[simp] theorem State.withImage_outputs (s : State) x : (s.withImage x).outputs = s.outputs := rfl
@[simp] theorem State.withImage_line (s : State) x : (s.withImage x).line = s.line := rfl
@[simp] theorem State.withImage_peers (s : State) x : (s.withImage x).peers = s.peers := rfl

@[simp] theorem State.withFire_now (s : State) x : (s.withFire x).now = s.now := rfl
@[simp] theorem State.withFire_event (s : State) x : (s.withFire x).event = s.event := rfl
@[simp] theorem State.withFire_pending (s : State) x : (s.withFire x).pending = s.pending := rfl
@[simp] theorem State.withFire_boot (s : State) x : (s.withFire x).boot = s.boot := rfl
@[simp] theorem State.withFire_image (s : State) x : (s.withFire x).image = s.image := rfl
@[simp] theorem State.withFire_fire (s : State) x : (s.withFire x).fire = x := rfl
@[simp] theorem State.withFire_demand (s : State) x : (s.withFire x).demand = s.demand := rfl
@[simp] theorem State.withFire_vents (s : State) x : (s.withFire x).vents = s.vents := rfl
@[simp] theorem State.withFire_chans (s : State) x : (s.withFire x).chans = s.chans := rfl
@[simp] theorem State.withFire_retention (s : State) x : (s.withFire x).retention = s.retention := rfl
@[simp] theorem State.withFire_supply (s : State) x : (s.withFire x).supply = s.supply := rfl
@[simp] theorem State.withFire_area (s : State) x : (s.withFire x).area = s.area := rfl
@[simp] theorem State.withFire_weather (s : State) x : (s.withFire x).weather = s.weather := rfl
@[simp] theorem State.withFire_windward (s : State) x : (s.withFire x).windward = s.windward := rfl
@[simp] theorem State.withFire_terms (s : State) x : (s.withFire x).terms = s.terms := rfl
@[simp] theorem State.withFire_pins (s : State) x : (s.withFire x).pins = s.pins := rfl
@[simp] theorem State.withFire_mains (s : State) x : (s.withFire x).mains = s.mains := rfl
@[simp] theorem State.withFire_outputs (s : State) x : (s.withFire x).outputs = s.outputs := rfl
@[simp] theorem State.withFire_line (s : State) x : (s.withFire x).line = s.line := rfl
@[simp] theorem State.withFire_peers (s : State) x : (s.withFire x).peers = s.peers := rfl

@[simp] theorem State.withDemand_now (s : State) x : (s.withDemand x).now = s.now := rfl
@[simp] theorem State.withDemand_event (s : State) x : (s.withDemand x).event = s.event := rfl
@[simp] theorem State.withDemand_pending (s : State) x : (s.withDemand x).pending = s.pending := rfl
@[simp] theorem State.withDemand_boot (s : State) x : (s.withDemand x).boot = s.boot := rfl
@[simp] theorem State.withDemand_image (s : State) x : (s.withDemand x).image = s.image := rfl
@[simp] theorem State.withDemand_fire (s : State) x : (s.withDemand x).fire = s.fire := rfl
@[simp] theorem State.withDemand_demand (s : State) x : (s.withDemand x).demand = x := rfl
@[simp] theorem State.withDemand_vents (s : State) x : (s.withDemand x).vents = s.vents := rfl
@[simp] theorem State.withDemand_chans (s : State) x : (s.withDemand x).chans = s.chans := rfl
@[simp] theorem State.withDemand_retention (s : State) x : (s.withDemand x).retention = s.retention := rfl
@[simp] theorem State.withDemand_supply (s : State) x : (s.withDemand x).supply = s.supply := rfl
@[simp] theorem State.withDemand_area (s : State) x : (s.withDemand x).area = s.area := rfl
@[simp] theorem State.withDemand_weather (s : State) x : (s.withDemand x).weather = s.weather := rfl
@[simp] theorem State.withDemand_windward (s : State) x : (s.withDemand x).windward = s.windward := rfl
@[simp] theorem State.withDemand_terms (s : State) x : (s.withDemand x).terms = s.terms := rfl
@[simp] theorem State.withDemand_pins (s : State) x : (s.withDemand x).pins = s.pins := rfl
@[simp] theorem State.withDemand_mains (s : State) x : (s.withDemand x).mains = s.mains := rfl
@[simp] theorem State.withDemand_outputs (s : State) x : (s.withDemand x).outputs = s.outputs := rfl
@[simp] theorem State.withDemand_line (s : State) x : (s.withDemand x).line = s.line := rfl
@[simp] theorem State.withDemand_peers (s : State) x : (s.withDemand x).peers = s.peers := rfl

@[simp] theorem State.withVents_now (s : State) x : (s.withVents x).now = s.now := rfl
@[simp] theorem State.withVents_event (s : State) x : (s.withVents x).event = s.event := rfl
@[simp] theorem State.withVents_pending (s : State) x : (s.withVents x).pending = s.pending := rfl
@[simp] theorem State.withVents_boot (s : State) x : (s.withVents x).boot = s.boot := rfl
@[simp] theorem State.withVents_image (s : State) x : (s.withVents x).image = s.image := rfl
@[simp] theorem State.withVents_fire (s : State) x : (s.withVents x).fire = s.fire := rfl
@[simp] theorem State.withVents_demand (s : State) x : (s.withVents x).demand = s.demand := rfl
@[simp] theorem State.withVents_vents (s : State) x : (s.withVents x).vents = x := rfl
@[simp] theorem State.withVents_chans (s : State) x : (s.withVents x).chans = s.chans := rfl
@[simp] theorem State.withVents_retention (s : State) x : (s.withVents x).retention = s.retention := rfl
@[simp] theorem State.withVents_supply (s : State) x : (s.withVents x).supply = s.supply := rfl
@[simp] theorem State.withVents_area (s : State) x : (s.withVents x).area = s.area := rfl
@[simp] theorem State.withVents_weather (s : State) x : (s.withVents x).weather = s.weather := rfl
@[simp] theorem State.withVents_windward (s : State) x : (s.withVents x).windward = s.windward := rfl
@[simp] theorem State.withVents_terms (s : State) x : (s.withVents x).terms = s.terms := rfl
@[simp] theorem State.withVents_pins (s : State) x : (s.withVents x).pins = s.pins := rfl
@[simp] theorem State.withVents_mains (s : State) x : (s.withVents x).mains = s.mains := rfl
@[simp] theorem State.withVents_outputs (s : State) x : (s.withVents x).outputs = s.outputs := rfl
@[simp] theorem State.withVents_line (s : State) x : (s.withVents x).line = s.line := rfl
@[simp] theorem State.withVents_peers (s : State) x : (s.withVents x).peers = s.peers := rfl

@[simp] theorem State.withChans_now (s : State) x : (s.withChans x).now = s.now := rfl
@[simp] theorem State.withChans_event (s : State) x : (s.withChans x).event = s.event := rfl
@[simp] theorem State.withChans_pending (s : State) x : (s.withChans x).pending = s.pending := rfl
@[simp] theorem State.withChans_boot (s : State) x : (s.withChans x).boot = s.boot := rfl
@[simp] theorem State.withChans_image (s : State) x : (s.withChans x).image = s.image := rfl
@[simp] theorem State.withChans_fire (s : State) x : (s.withChans x).fire = s.fire := rfl
@[simp] theorem State.withChans_demand (s : State) x : (s.withChans x).demand = s.demand := rfl
@[simp] theorem State.withChans_vents (s : State) x : (s.withChans x).vents = s.vents := rfl
@[simp] theorem State.withChans_chans (s : State) x : (s.withChans x).chans = x := rfl
@[simp] theorem State.withChans_retention (s : State) x : (s.withChans x).retention = s.retention := rfl
@[simp] theorem State.withChans_supply (s : State) x : (s.withChans x).supply = s.supply := rfl
@[simp] theorem State.withChans_area (s : State) x : (s.withChans x).area = s.area := rfl
@[simp] theorem State.withChans_weather (s : State) x : (s.withChans x).weather = s.weather := rfl
@[simp] theorem State.withChans_windward (s : State) x : (s.withChans x).windward = s.windward := rfl
@[simp] theorem State.withChans_terms (s : State) x : (s.withChans x).terms = s.terms := rfl
@[simp] theorem State.withChans_pins (s : State) x : (s.withChans x).pins = s.pins := rfl
@[simp] theorem State.withChans_mains (s : State) x : (s.withChans x).mains = s.mains := rfl
@[simp] theorem State.withChans_outputs (s : State) x : (s.withChans x).outputs = s.outputs := rfl
@[simp] theorem State.withChans_line (s : State) x : (s.withChans x).line = s.line := rfl
@[simp] theorem State.withChans_peers (s : State) x : (s.withChans x).peers = s.peers := rfl

@[simp] theorem State.withRetention_now (s : State) x : (s.withRetention x).now = s.now := rfl
@[simp] theorem State.withRetention_event (s : State) x : (s.withRetention x).event = s.event := rfl
@[simp] theorem State.withRetention_pending (s : State) x : (s.withRetention x).pending = s.pending := rfl
@[simp] theorem State.withRetention_boot (s : State) x : (s.withRetention x).boot = s.boot := rfl
@[simp] theorem State.withRetention_image (s : State) x : (s.withRetention x).image = s.image := rfl
@[simp] theorem State.withRetention_fire (s : State) x : (s.withRetention x).fire = s.fire := rfl
@[simp] theorem State.withRetention_demand (s : State) x : (s.withRetention x).demand = s.demand := rfl
@[simp] theorem State.withRetention_vents (s : State) x : (s.withRetention x).vents = s.vents := rfl
@[simp] theorem State.withRetention_chans (s : State) x : (s.withRetention x).chans = s.chans := rfl
@[simp] theorem State.withRetention_retention (s : State) x : (s.withRetention x).retention = x := rfl
@[simp] theorem State.withRetention_supply (s : State) x : (s.withRetention x).supply = s.supply := rfl
@[simp] theorem State.withRetention_area (s : State) x : (s.withRetention x).area = s.area := rfl
@[simp] theorem State.withRetention_weather (s : State) x : (s.withRetention x).weather = s.weather := rfl
@[simp] theorem State.withRetention_windward (s : State) x : (s.withRetention x).windward = s.windward := rfl
@[simp] theorem State.withRetention_terms (s : State) x : (s.withRetention x).terms = s.terms := rfl
@[simp] theorem State.withRetention_pins (s : State) x : (s.withRetention x).pins = s.pins := rfl
@[simp] theorem State.withRetention_mains (s : State) x : (s.withRetention x).mains = s.mains := rfl
@[simp] theorem State.withRetention_outputs (s : State) x : (s.withRetention x).outputs = s.outputs := rfl
@[simp] theorem State.withRetention_line (s : State) x : (s.withRetention x).line = s.line := rfl
@[simp] theorem State.withRetention_peers (s : State) x : (s.withRetention x).peers = s.peers := rfl

@[simp] theorem State.withSupply_now (s : State) x : (s.withSupply x).now = s.now := rfl
@[simp] theorem State.withSupply_event (s : State) x : (s.withSupply x).event = s.event := rfl
@[simp] theorem State.withSupply_pending (s : State) x : (s.withSupply x).pending = s.pending := rfl
@[simp] theorem State.withSupply_boot (s : State) x : (s.withSupply x).boot = s.boot := rfl
@[simp] theorem State.withSupply_image (s : State) x : (s.withSupply x).image = s.image := rfl
@[simp] theorem State.withSupply_fire (s : State) x : (s.withSupply x).fire = s.fire := rfl
@[simp] theorem State.withSupply_demand (s : State) x : (s.withSupply x).demand = s.demand := rfl
@[simp] theorem State.withSupply_vents (s : State) x : (s.withSupply x).vents = s.vents := rfl
@[simp] theorem State.withSupply_chans (s : State) x : (s.withSupply x).chans = s.chans := rfl
@[simp] theorem State.withSupply_retention (s : State) x : (s.withSupply x).retention = s.retention := rfl
@[simp] theorem State.withSupply_supply (s : State) x : (s.withSupply x).supply = x := rfl
@[simp] theorem State.withSupply_area (s : State) x : (s.withSupply x).area = s.area := rfl
@[simp] theorem State.withSupply_weather (s : State) x : (s.withSupply x).weather = s.weather := rfl
@[simp] theorem State.withSupply_windward (s : State) x : (s.withSupply x).windward = s.windward := rfl
@[simp] theorem State.withSupply_terms (s : State) x : (s.withSupply x).terms = s.terms := rfl
@[simp] theorem State.withSupply_pins (s : State) x : (s.withSupply x).pins = s.pins := rfl
@[simp] theorem State.withSupply_mains (s : State) x : (s.withSupply x).mains = s.mains := rfl
@[simp] theorem State.withSupply_outputs (s : State) x : (s.withSupply x).outputs = s.outputs := rfl
@[simp] theorem State.withSupply_line (s : State) x : (s.withSupply x).line = s.line := rfl
@[simp] theorem State.withSupply_peers (s : State) x : (s.withSupply x).peers = s.peers := rfl

@[simp] theorem State.withArea_now (s : State) x : (s.withArea x).now = s.now := rfl
@[simp] theorem State.withArea_event (s : State) x : (s.withArea x).event = s.event := rfl
@[simp] theorem State.withArea_pending (s : State) x : (s.withArea x).pending = s.pending := rfl
@[simp] theorem State.withArea_boot (s : State) x : (s.withArea x).boot = s.boot := rfl
@[simp] theorem State.withArea_image (s : State) x : (s.withArea x).image = s.image := rfl
@[simp] theorem State.withArea_fire (s : State) x : (s.withArea x).fire = s.fire := rfl
@[simp] theorem State.withArea_demand (s : State) x : (s.withArea x).demand = s.demand := rfl
@[simp] theorem State.withArea_vents (s : State) x : (s.withArea x).vents = s.vents := rfl
@[simp] theorem State.withArea_chans (s : State) x : (s.withArea x).chans = s.chans := rfl
@[simp] theorem State.withArea_retention (s : State) x : (s.withArea x).retention = s.retention := rfl
@[simp] theorem State.withArea_supply (s : State) x : (s.withArea x).supply = s.supply := rfl
@[simp] theorem State.withArea_area (s : State) x : (s.withArea x).area = x := rfl
@[simp] theorem State.withArea_weather (s : State) x : (s.withArea x).weather = s.weather := rfl
@[simp] theorem State.withArea_windward (s : State) x : (s.withArea x).windward = s.windward := rfl
@[simp] theorem State.withArea_terms (s : State) x : (s.withArea x).terms = s.terms := rfl
@[simp] theorem State.withArea_pins (s : State) x : (s.withArea x).pins = s.pins := rfl
@[simp] theorem State.withArea_mains (s : State) x : (s.withArea x).mains = s.mains := rfl
@[simp] theorem State.withArea_outputs (s : State) x : (s.withArea x).outputs = s.outputs := rfl
@[simp] theorem State.withArea_line (s : State) x : (s.withArea x).line = s.line := rfl
@[simp] theorem State.withArea_peers (s : State) x : (s.withArea x).peers = s.peers := rfl

@[simp] theorem State.withWeather_now (s : State) x : (s.withWeather x).now = s.now := rfl
@[simp] theorem State.withWeather_event (s : State) x : (s.withWeather x).event = s.event := rfl
@[simp] theorem State.withWeather_pending (s : State) x : (s.withWeather x).pending = s.pending := rfl
@[simp] theorem State.withWeather_boot (s : State) x : (s.withWeather x).boot = s.boot := rfl
@[simp] theorem State.withWeather_image (s : State) x : (s.withWeather x).image = s.image := rfl
@[simp] theorem State.withWeather_fire (s : State) x : (s.withWeather x).fire = s.fire := rfl
@[simp] theorem State.withWeather_demand (s : State) x : (s.withWeather x).demand = s.demand := rfl
@[simp] theorem State.withWeather_vents (s : State) x : (s.withWeather x).vents = s.vents := rfl
@[simp] theorem State.withWeather_chans (s : State) x : (s.withWeather x).chans = s.chans := rfl
@[simp] theorem State.withWeather_retention (s : State) x : (s.withWeather x).retention = s.retention := rfl
@[simp] theorem State.withWeather_supply (s : State) x : (s.withWeather x).supply = s.supply := rfl
@[simp] theorem State.withWeather_area (s : State) x : (s.withWeather x).area = s.area := rfl
@[simp] theorem State.withWeather_weather (s : State) x : (s.withWeather x).weather = x := rfl
@[simp] theorem State.withWeather_windward (s : State) x : (s.withWeather x).windward = s.windward := rfl
@[simp] theorem State.withWeather_terms (s : State) x : (s.withWeather x).terms = s.terms := rfl
@[simp] theorem State.withWeather_pins (s : State) x : (s.withWeather x).pins = s.pins := rfl
@[simp] theorem State.withWeather_mains (s : State) x : (s.withWeather x).mains = s.mains := rfl
@[simp] theorem State.withWeather_outputs (s : State) x : (s.withWeather x).outputs = s.outputs := rfl
@[simp] theorem State.withWeather_line (s : State) x : (s.withWeather x).line = s.line := rfl
@[simp] theorem State.withWeather_peers (s : State) x : (s.withWeather x).peers = s.peers := rfl

@[simp] theorem State.withWindward_now (s : State) x : (s.withWindward x).now = s.now := rfl
@[simp] theorem State.withWindward_event (s : State) x : (s.withWindward x).event = s.event := rfl
@[simp] theorem State.withWindward_pending (s : State) x : (s.withWindward x).pending = s.pending := rfl
@[simp] theorem State.withWindward_boot (s : State) x : (s.withWindward x).boot = s.boot := rfl
@[simp] theorem State.withWindward_image (s : State) x : (s.withWindward x).image = s.image := rfl
@[simp] theorem State.withWindward_fire (s : State) x : (s.withWindward x).fire = s.fire := rfl
@[simp] theorem State.withWindward_demand (s : State) x : (s.withWindward x).demand = s.demand := rfl
@[simp] theorem State.withWindward_vents (s : State) x : (s.withWindward x).vents = s.vents := rfl
@[simp] theorem State.withWindward_chans (s : State) x : (s.withWindward x).chans = s.chans := rfl
@[simp] theorem State.withWindward_retention (s : State) x : (s.withWindward x).retention = s.retention := rfl
@[simp] theorem State.withWindward_supply (s : State) x : (s.withWindward x).supply = s.supply := rfl
@[simp] theorem State.withWindward_area (s : State) x : (s.withWindward x).area = s.area := rfl
@[simp] theorem State.withWindward_weather (s : State) x : (s.withWindward x).weather = s.weather := rfl
@[simp] theorem State.withWindward_windward (s : State) x : (s.withWindward x).windward = x := rfl
@[simp] theorem State.withWindward_terms (s : State) x : (s.withWindward x).terms = s.terms := rfl
@[simp] theorem State.withWindward_pins (s : State) x : (s.withWindward x).pins = s.pins := rfl
@[simp] theorem State.withWindward_mains (s : State) x : (s.withWindward x).mains = s.mains := rfl
@[simp] theorem State.withWindward_outputs (s : State) x : (s.withWindward x).outputs = s.outputs := rfl
@[simp] theorem State.withWindward_line (s : State) x : (s.withWindward x).line = s.line := rfl
@[simp] theorem State.withWindward_peers (s : State) x : (s.withWindward x).peers = s.peers := rfl

@[simp] theorem State.withTerms_now (s : State) x : (s.withTerms x).now = s.now := rfl
@[simp] theorem State.withTerms_event (s : State) x : (s.withTerms x).event = s.event := rfl
@[simp] theorem State.withTerms_pending (s : State) x : (s.withTerms x).pending = s.pending := rfl
@[simp] theorem State.withTerms_boot (s : State) x : (s.withTerms x).boot = s.boot := rfl
@[simp] theorem State.withTerms_image (s : State) x : (s.withTerms x).image = s.image := rfl
@[simp] theorem State.withTerms_fire (s : State) x : (s.withTerms x).fire = s.fire := rfl
@[simp] theorem State.withTerms_demand (s : State) x : (s.withTerms x).demand = s.demand := rfl
@[simp] theorem State.withTerms_vents (s : State) x : (s.withTerms x).vents = s.vents := rfl
@[simp] theorem State.withTerms_chans (s : State) x : (s.withTerms x).chans = s.chans := rfl
@[simp] theorem State.withTerms_retention (s : State) x : (s.withTerms x).retention = s.retention := rfl
@[simp] theorem State.withTerms_supply (s : State) x : (s.withTerms x).supply = s.supply := rfl
@[simp] theorem State.withTerms_area (s : State) x : (s.withTerms x).area = s.area := rfl
@[simp] theorem State.withTerms_weather (s : State) x : (s.withTerms x).weather = s.weather := rfl
@[simp] theorem State.withTerms_windward (s : State) x : (s.withTerms x).windward = s.windward := rfl
@[simp] theorem State.withTerms_terms (s : State) x : (s.withTerms x).terms = x := rfl
@[simp] theorem State.withTerms_pins (s : State) x : (s.withTerms x).pins = s.pins := rfl
@[simp] theorem State.withTerms_mains (s : State) x : (s.withTerms x).mains = s.mains := rfl
@[simp] theorem State.withTerms_outputs (s : State) x : (s.withTerms x).outputs = s.outputs := rfl
@[simp] theorem State.withTerms_line (s : State) x : (s.withTerms x).line = s.line := rfl
@[simp] theorem State.withTerms_peers (s : State) x : (s.withTerms x).peers = s.peers := rfl

@[simp] theorem State.withPins_now (s : State) x : (s.withPins x).now = s.now := rfl
@[simp] theorem State.withPins_event (s : State) x : (s.withPins x).event = s.event := rfl
@[simp] theorem State.withPins_pending (s : State) x : (s.withPins x).pending = s.pending := rfl
@[simp] theorem State.withPins_boot (s : State) x : (s.withPins x).boot = s.boot := rfl
@[simp] theorem State.withPins_image (s : State) x : (s.withPins x).image = s.image := rfl
@[simp] theorem State.withPins_fire (s : State) x : (s.withPins x).fire = s.fire := rfl
@[simp] theorem State.withPins_demand (s : State) x : (s.withPins x).demand = s.demand := rfl
@[simp] theorem State.withPins_vents (s : State) x : (s.withPins x).vents = s.vents := rfl
@[simp] theorem State.withPins_chans (s : State) x : (s.withPins x).chans = s.chans := rfl
@[simp] theorem State.withPins_retention (s : State) x : (s.withPins x).retention = s.retention := rfl
@[simp] theorem State.withPins_supply (s : State) x : (s.withPins x).supply = s.supply := rfl
@[simp] theorem State.withPins_area (s : State) x : (s.withPins x).area = s.area := rfl
@[simp] theorem State.withPins_weather (s : State) x : (s.withPins x).weather = s.weather := rfl
@[simp] theorem State.withPins_windward (s : State) x : (s.withPins x).windward = s.windward := rfl
@[simp] theorem State.withPins_terms (s : State) x : (s.withPins x).terms = s.terms := rfl
@[simp] theorem State.withPins_pins (s : State) x : (s.withPins x).pins = x := rfl
@[simp] theorem State.withPins_mains (s : State) x : (s.withPins x).mains = s.mains := rfl
@[simp] theorem State.withPins_outputs (s : State) x : (s.withPins x).outputs = s.outputs := rfl
@[simp] theorem State.withPins_line (s : State) x : (s.withPins x).line = s.line := rfl
@[simp] theorem State.withPins_peers (s : State) x : (s.withPins x).peers = s.peers := rfl

@[simp] theorem State.withMains_now (s : State) x : (s.withMains x).now = s.now := rfl
@[simp] theorem State.withMains_event (s : State) x : (s.withMains x).event = s.event := rfl
@[simp] theorem State.withMains_pending (s : State) x : (s.withMains x).pending = s.pending := rfl
@[simp] theorem State.withMains_boot (s : State) x : (s.withMains x).boot = s.boot := rfl
@[simp] theorem State.withMains_image (s : State) x : (s.withMains x).image = s.image := rfl
@[simp] theorem State.withMains_fire (s : State) x : (s.withMains x).fire = s.fire := rfl
@[simp] theorem State.withMains_demand (s : State) x : (s.withMains x).demand = s.demand := rfl
@[simp] theorem State.withMains_vents (s : State) x : (s.withMains x).vents = s.vents := rfl
@[simp] theorem State.withMains_chans (s : State) x : (s.withMains x).chans = s.chans := rfl
@[simp] theorem State.withMains_retention (s : State) x : (s.withMains x).retention = s.retention := rfl
@[simp] theorem State.withMains_supply (s : State) x : (s.withMains x).supply = s.supply := rfl
@[simp] theorem State.withMains_area (s : State) x : (s.withMains x).area = s.area := rfl
@[simp] theorem State.withMains_weather (s : State) x : (s.withMains x).weather = s.weather := rfl
@[simp] theorem State.withMains_windward (s : State) x : (s.withMains x).windward = s.windward := rfl
@[simp] theorem State.withMains_terms (s : State) x : (s.withMains x).terms = s.terms := rfl
@[simp] theorem State.withMains_pins (s : State) x : (s.withMains x).pins = s.pins := rfl
@[simp] theorem State.withMains_mains (s : State) x : (s.withMains x).mains = x := rfl
@[simp] theorem State.withMains_outputs (s : State) x : (s.withMains x).outputs = s.outputs := rfl
@[simp] theorem State.withMains_line (s : State) x : (s.withMains x).line = s.line := rfl
@[simp] theorem State.withMains_peers (s : State) x : (s.withMains x).peers = s.peers := rfl

@[simp] theorem State.withOutputs_now (s : State) x : (s.withOutputs x).now = s.now := rfl
@[simp] theorem State.withOutputs_event (s : State) x : (s.withOutputs x).event = s.event := rfl
@[simp] theorem State.withOutputs_pending (s : State) x : (s.withOutputs x).pending = s.pending := rfl
@[simp] theorem State.withOutputs_boot (s : State) x : (s.withOutputs x).boot = s.boot := rfl
@[simp] theorem State.withOutputs_image (s : State) x : (s.withOutputs x).image = s.image := rfl
@[simp] theorem State.withOutputs_fire (s : State) x : (s.withOutputs x).fire = s.fire := rfl
@[simp] theorem State.withOutputs_demand (s : State) x : (s.withOutputs x).demand = s.demand := rfl
@[simp] theorem State.withOutputs_vents (s : State) x : (s.withOutputs x).vents = s.vents := rfl
@[simp] theorem State.withOutputs_chans (s : State) x : (s.withOutputs x).chans = s.chans := rfl
@[simp] theorem State.withOutputs_retention (s : State) x : (s.withOutputs x).retention = s.retention := rfl
@[simp] theorem State.withOutputs_supply (s : State) x : (s.withOutputs x).supply = s.supply := rfl
@[simp] theorem State.withOutputs_area (s : State) x : (s.withOutputs x).area = s.area := rfl
@[simp] theorem State.withOutputs_weather (s : State) x : (s.withOutputs x).weather = s.weather := rfl
@[simp] theorem State.withOutputs_windward (s : State) x : (s.withOutputs x).windward = s.windward := rfl
@[simp] theorem State.withOutputs_terms (s : State) x : (s.withOutputs x).terms = s.terms := rfl
@[simp] theorem State.withOutputs_pins (s : State) x : (s.withOutputs x).pins = s.pins := rfl
@[simp] theorem State.withOutputs_mains (s : State) x : (s.withOutputs x).mains = s.mains := rfl
@[simp] theorem State.withOutputs_outputs (s : State) x : (s.withOutputs x).outputs = x := rfl
@[simp] theorem State.withOutputs_line (s : State) x : (s.withOutputs x).line = s.line := rfl
@[simp] theorem State.withOutputs_peers (s : State) x : (s.withOutputs x).peers = s.peers := rfl

@[simp] theorem State.withLine_now (s : State) x : (s.withLine x).now = s.now := rfl
@[simp] theorem State.withLine_event (s : State) x : (s.withLine x).event = s.event := rfl
@[simp] theorem State.withLine_pending (s : State) x : (s.withLine x).pending = s.pending := rfl
@[simp] theorem State.withLine_boot (s : State) x : (s.withLine x).boot = s.boot := rfl
@[simp] theorem State.withLine_image (s : State) x : (s.withLine x).image = s.image := rfl
@[simp] theorem State.withLine_fire (s : State) x : (s.withLine x).fire = s.fire := rfl
@[simp] theorem State.withLine_demand (s : State) x : (s.withLine x).demand = s.demand := rfl
@[simp] theorem State.withLine_vents (s : State) x : (s.withLine x).vents = s.vents := rfl
@[simp] theorem State.withLine_chans (s : State) x : (s.withLine x).chans = s.chans := rfl
@[simp] theorem State.withLine_retention (s : State) x : (s.withLine x).retention = s.retention := rfl
@[simp] theorem State.withLine_supply (s : State) x : (s.withLine x).supply = s.supply := rfl
@[simp] theorem State.withLine_area (s : State) x : (s.withLine x).area = s.area := rfl
@[simp] theorem State.withLine_weather (s : State) x : (s.withLine x).weather = s.weather := rfl
@[simp] theorem State.withLine_windward (s : State) x : (s.withLine x).windward = s.windward := rfl
@[simp] theorem State.withLine_terms (s : State) x : (s.withLine x).terms = s.terms := rfl
@[simp] theorem State.withLine_pins (s : State) x : (s.withLine x).pins = s.pins := rfl
@[simp] theorem State.withLine_mains (s : State) x : (s.withLine x).mains = s.mains := rfl
@[simp] theorem State.withLine_outputs (s : State) x : (s.withLine x).outputs = s.outputs := rfl
@[simp] theorem State.withLine_line (s : State) x : (s.withLine x).line = x := rfl
@[simp] theorem State.withLine_peers (s : State) x : (s.withLine x).peers = s.peers := rfl

@[simp] theorem State.withPeers_now (s : State) x : (s.withPeers x).now = s.now := rfl
@[simp] theorem State.withPeers_event (s : State) x : (s.withPeers x).event = s.event := rfl
@[simp] theorem State.withPeers_pending (s : State) x : (s.withPeers x).pending = s.pending := rfl
@[simp] theorem State.withPeers_boot (s : State) x : (s.withPeers x).boot = s.boot := rfl
@[simp] theorem State.withPeers_image (s : State) x : (s.withPeers x).image = s.image := rfl
@[simp] theorem State.withPeers_fire (s : State) x : (s.withPeers x).fire = s.fire := rfl
@[simp] theorem State.withPeers_demand (s : State) x : (s.withPeers x).demand = s.demand := rfl
@[simp] theorem State.withPeers_vents (s : State) x : (s.withPeers x).vents = s.vents := rfl
@[simp] theorem State.withPeers_chans (s : State) x : (s.withPeers x).chans = s.chans := rfl
@[simp] theorem State.withPeers_retention (s : State) x : (s.withPeers x).retention = s.retention := rfl
@[simp] theorem State.withPeers_supply (s : State) x : (s.withPeers x).supply = s.supply := rfl
@[simp] theorem State.withPeers_area (s : State) x : (s.withPeers x).area = s.area := rfl
@[simp] theorem State.withPeers_weather (s : State) x : (s.withPeers x).weather = s.weather := rfl
@[simp] theorem State.withPeers_windward (s : State) x : (s.withPeers x).windward = s.windward := rfl
@[simp] theorem State.withPeers_terms (s : State) x : (s.withPeers x).terms = s.terms := rfl
@[simp] theorem State.withPeers_pins (s : State) x : (s.withPeers x).pins = s.pins := rfl
@[simp] theorem State.withPeers_mains (s : State) x : (s.withPeers x).mains = s.mains := rfl
@[simp] theorem State.withPeers_outputs (s : State) x : (s.withPeers x).outputs = s.outputs := rfl
@[simp] theorem State.withPeers_line (s : State) x : (s.withPeers x).line = s.line := rfl
@[simp] theorem State.withPeers_peers (s : State) x : (s.withPeers x).peers = x := rfl

end Sys2Proof.Machine
end

