-- ==== Sys2Proof/Laws/Completion.lean ====
section
/-! SUPPORT. The completion of an event (`finish`) leaves the sources of the state alone: one lemma per operation it is
made of, then `finish_sources`. -/

namespace Sys2Proof.Machine

/-! ### Updates and folds -/

@[simp] theorem State.updVent_sources (s : State) (v : VentId) (f : Vent → Vent) :
    (s.updVent v f).sources = s.sources := rfl
@[simp] theorem State.updChan_sources (s : State) (c : ChanId) (f : Channel → Channel) :
    (s.updChan c f).sources = s.sources := rfl
@[simp] theorem State.updSupply_sources (s : State) (f : Supply → Supply) : (s.updSupply f).sources = s.sources := rfl
@[simp] theorem State.withArea_sources (s : State) (a : Area) : (s.withArea a).sources = s.sources := rfl
@[simp] theorem State.withRetention_sources (s : State) (r : Vector Position 8) :
    (s.withRetention r).sources = s.sources := rfl
@[simp] theorem State.withOutputs_sources (s : State) (o : Vector Bool 6) : (s.withOutputs o).sources = s.sources := rfl
@[simp] theorem State.withVents_sources (s : State) (x : Vector Vent 8) : (s.withVents x).sources = s.sources := rfl
@[simp] theorem State.withChans_sources (s : State) (x : Vector Channel 8) : (s.withChans x).sources = s.sources := rfl

/-- A change of waiting frames or of the recovery DRAW alone keeps the sources. -/
theorem State.updLine_sources (s : State) (f : Line → Line) (h : (f s.line).standing = s.line.standing) :
    (s.updLine f).sources = s.sources := by
  simp [State.updLine, State.sources, h, State.withLine]

theorem List.foldl_sources {α : Type} (f : State → α → State) (hf : ∀ s a, (f s a).sources = s.sources) (l : List α) :
    ∀ s, (l.foldl f s).sources = s.sources := by
  induction l with
  | nil => exact fun _ => rfl
  | cons a l ih => intro s; rw [List.foldl_cons, ih, hf]

theorem forEight_sources (f : State → Fin 8 → State) (hf : ∀ s v, (f s v).sources = s.sources) (s : State) :
    (forEight f s).sources = s.sources := List.foldl_sources f hf _ s

theorem forChannels_sources (v : VentId) (f : State → ChanId → State) (hf : ∀ s c, (f s c).sources = s.sources)
    (s : State) : (forChannels v f s).sources = s.sources := List.foldl_sources f hf _ s

/-! ### The Drive Unit and the scheduler -/

@[simp] theorem toIdle_sources (v : VentId) (s : State) : (toIdle v s).sources = s.sources := rfl
@[simp] theorem toWait_sources (v : VentId) (k : RunKind) (s : State) : (toWait v k s).sources = s.sources := rfl
@[simp] theorem toDwell_sources (v : VentId) (s : State) : (toDwell v s).sources = s.sources := rfl
@[simp] theorem toLocked_sources (v : VentId) (k : FaultKind) (s : State) : (toLocked v k s).sources = s.sources := rfl
@[simp] theorem countStop_sources (v : VentId) (s : State) : (countStop v s).sources = s.sources := rfl
@[simp] theorem endStart_sources (s : State) : (endStart s).sources = s.sources := rfl

@[simp] theorem evaluate_sources (v : VentId) (s : State) : (evaluate v s).sources = s.sources := by
  unfold evaluate; repeat' split
  all_goals simp

@[simp] theorem evaluateWaiting_sources (v : VentId) (s : State) : (evaluateWaiting v s).sources = s.sources := by
  unfold evaluateWaiting; repeat' split
  all_goals simp

@[simp] theorem beginRun_sources (v : VentId) (d : Dir) (k : RunKind) (s : State) :
    (beginRun v d k s).sources = s.sources := by
  unfold beginRun
  simp only
  rw [forChannels_sources v (driveChannel d) (fun _ _ => rfl)]
  rfl

@[simp] theorem stopDriven_sources (v : VentId) (f : ChanId → Position) (s : State) :
    (stopDriven v f s).sources = s.sources := by
  unfold stopDriven
  refine forChannels_sources v _ (fun s c => ?_) s
  split <;> rfl

@[simp] theorem stopInPlace_sources (v : VentId) (s : State) : (stopInPlace v s).sources = s.sources := by
  simp [stopInPlace]

@[simp] theorem stopAt_sources (v : VentId) (p : Nat) (s : State) : (stopAt v p s).sources = s.sources := by
  simp [stopAt]

@[simp] theorem retarget_sources (v : VentId) (d : Dir) (p : Nat) (s : State) : (retarget v d p s).sources = s.sources := by
  unfold retarget; repeat' split
  all_goals simp

@[simp] theorem withdrawStart_sources (v : VentId) (old : Option Dir) (s : State) :
    (withdrawStart v old s).sources = s.sources := by simp [withdrawStart]

@[simp] theorem meetHold_sources (v : VentId) (s : State) : (meetHold v s).sources = s.sources := by
  unfold meetHold; split <;> simp

@[simp] theorem meetTarget_sources (v : VentId) (d : Dir) (t : Target) (s : State) :
    (meetTarget v d t s).sources = s.sources := by
  unfold meetTarget meetIntermediate; repeat' split
  all_goals simp

@[simp] theorem takeDemand_sources (v : VentId) (t : Target) (c : DemandClass) (s : State) :
    (takeDemand v t c s).sources = s.sources := by
  unfold takeDemand
  simp only
  repeat' split
  all_goals simp

@[simp] theorem handOnVent_sources (v : VentId) (s : State) : (handOnVent v s).sources = s.sources := by simp [handOnVent]

@[simp] theorem handOn_sources (who : VentId → Bool) (before s : State) : (handOn who before s).sources = s.sources := by
  unfold handOn
  refine forEight_sources _ (fun s v => ?_) s
  split <;> simp

@[simp] theorem evaluateReleased_sources (who : VentId → Bool) (before s : State) :
    (evaluateReleased who before s).sources = s.sources := by
  unfold evaluateReleased
  refine forEight_sources _ (fun s v => ?_) s
  split <;> simp

@[simp] theorem settleDemands_sources (who : VentId → Bool) (before s : State) :
    (settleDemands who before s).sources = s.sources := by simp [settleDemands]

@[simp] theorem writeRetention_sources (before s : State) : (writeRetention before s).sources = s.sources := by
  unfold writeRetention
  refine forEight_sources _ (fun s v => ?_) s
  split
  · rfl
  · apply forChannels_sources; intros; rfl

@[simp] theorem giveStart_sources (v : VentId) (s : State) : (giveStart v s).sources = s.sources := by
  unfold giveStart
  simp only
  repeat' split
  all_goals simp

@[simp] theorem returnStart_sources (v : VentId) (s : State) : (returnStart v s).sources = s.sources := by simp [returnStart]

@[simp] theorem degradeStart_sources (s : State) : (degradeStart s).sources = s.sources := by
  unfold degradeStart; repeat' split
  all_goals simp

@[simp] theorem noteCommit_sources (v : VentId) (old : Option Dir) (s : State) : (noteCommit v old s).sources = s.sources := rfl

@[simp] theorem commit_sources (v : VentId) (s : State) : (commit v s).sources = s.sources := by
  unfold commit; split <;> simp

@[simp] theorem announce_sources (v : VentId) (s : State) : (announce v s).sources = s.sources := by simp [announce]

@[simp] theorem serve_sources (n : Nat) : ∀ s : State, (serve n s).sources = s.sources := by
  induction n with
  | zero => exact fun _ => rfl
  | succ n ih =>
    intro s
    unfold serve
    repeat' split
    all_goals simp [ih]

@[simp] theorem schedule_sources (before s : State) : (schedule before s).sources = s.sources := by
  unfold schedule; split <;> simp

/-! ### Queue offers -/

@[simp] theorem drawLost_sources (q : Queued) (s : State) : (drawLost q s).sources = s.sources := by
  unfold drawLost; repeat' split
  all_goals simp

@[simp] theorem offer_sources (f : Frame) (ann : Option Nat) (s : State) : (offer f ann s).sources = s.sources := by
  unfold offer
  split
  · rfl
  · exact State.updLine_sources s _ rfl
  · exact State.updLine_sources s _ rfl
  · rw [drawLost_sources]; exact State.updLine_sources s _ rfl

@[simp] theorem offerDraw_sources (s : State) : (offerDraw s).sources = s.sources := by
  unfold offerDraw
  simp only
  repeat' split
  all_goals simp

@[simp] theorem sendFrames_sources (c : Causes) (before : State) (r : Bool) (s : State) :
    (sendFrames c before r s).sources = s.sources := by
  have h1 : ∀ s : State, (tryRecovery c s).sources = s.sources := by
    intro s; unfold tryRecovery; repeat' split
    all_goals rfl
  have h2 : ∀ s : State, (sendWeather c before s).sources = s.sources := by
    intro s; unfold sendWeather; split <;> simp
  have h3 : ∀ s : State, (sendArea c r s).sources = s.sources := by
    intro s; unfold sendArea; simp only; repeat' split
    all_goals simp
  have h4 : ∀ s : State, (sendStatus c before s).sources = s.sources := by
    intro s; unfold sendStatus; split <;> simp
  have h5 : ∀ s : State, (sendDraw before s).sources = s.sources := by
    intro s; unfold sendDraw; split <;> simp
  unfold sendFrames
  rw [h1, h2, h3, h4, h5]

/-! ### Records and the balance -/

/-- Writing FIRE and WEATHER records alone keeps the sources. -/
theorem State.withDemand_sources (s : State) (d : Vector Records 8)
    (h : ∀ v : Fin 8, d[v].standing = s.demand[v].standing) : (s.withDemand d).sources = s.sources := by
  have e : (Vector.ofFn fun v : Fin 8 => d[v].standing) = Vector.ofFn fun v : Fin 8 => s.demand[v].standing := by
    congr 1; funext v; exact h v
  simp only [State.sources, State.withDemand, e]

@[simp] theorem writePattern_sources (s : State) : (writePattern s).sources = s.sources :=
  State.withDemand_sources s _ (fun v => by simp [Records.standing])

@[simp] theorem writeWeatherRecords_sources (s : State) : (writeWeatherRecords s).sources = s.sources :=
  State.withDemand_sources s _ (fun v => by simp [Records.standing])

@[simp] theorem syncPattern_sources (before s : State) : (syncPattern before s).sources = s.sources := by
  unfold syncPattern; split <;> simp

@[simp] theorem syncWeatherRecords_sources (before s : State) : (syncWeatherRecords before s).sources = s.sources := by
  unfold syncWeatherRecords; split <;> simp

@[simp] theorem dropCalls_sources (before s : State) : (dropCalls before s).sources = s.sources := rfl

@[simp] theorem syncBalance_sources (before s : State) : (syncBalance before s).sources = s.sources := by
  unfold syncBalance; repeat' split
  all_goals rfl

@[simp] theorem syncRecords_sources (before s : State) : (syncRecords before s).sources = s.sources := by
  simp [syncRecords]

@[simp] theorem align_sources (before s : State) : (align before s).sources = s.sources := by simp [align]

@[simp] theorem allocate_sources (z : Zone) (s : State) : (allocate z s).sources = s.sources := rfl

@[simp] theorem recompute_sources (before s : State) : (recompute before s).sources = s.sources := by
  unfold recompute; split
  · rfl
  · unfold formReport; simp

@[simp] theorem rebalance_sources (w : Bool) (before s : State) : (rebalance w before s).sources = s.sources := by
  unfold rebalance; split <;> simp

theorem decideStarts_sources (c : Causes) (before s : State) : (decideStarts c before s).1.sources = s.sources := by
  simp [decideStarts]

@[simp] theorem syncOutputs_sources (before s : State) : (syncOutputs before s).sources = s.sources := by
  unfold syncOutputs; split <;> simp

/-- The completion of an event leaves the sources as the command's effect made them. -/
theorem finish_sources (c : Causes) (before s : State) : (finish c before s).sources = s.sources := by
  unfold finish
  simp only [syncOutputs_sources, writeRetention_sources, sendFrames_sources]
  exact decideStarts_sources c before s

end Sys2Proof.Machine
end

