-- ==== Sys2Proof/Laws/Formats.lean ====
section
/-! SUPPORT. What the readers of a frame do, each said once: the check byte in numbers (R180), the fields that can be refused
(R153, R179). -/

namespace Sys2Proof.Machine

/-! ### The check byte (R180) -/

theorem msbFirst_byte (b : Byte) : msbFirst b = [7, 6, 5, 4, 3, 2, 1, 0].map b.toNat.testBit := by
  simp [msbFirst, List.range, List.range.loop, BitVec.getLsbD]

/-- R180: one bit enters the register, in numbers. -/
theorem checkStep_toNat : ∀ (reg : Byte) (bit : Bool), (checkStep reg bit).toNat =
    (2 * reg.toNat % 256) ^^^ (if decide (128 ≤ reg.toNat) = bit then 0 else 7) := by decide +kernel

theorem foldl_checkStep_toNat (bits : List Bool) (reg : Byte) : (bits.foldl checkStep reg).toNat =
    bits.foldl (fun x d => (2 * x % 256) ^^^ (if decide (128 ≤ x) = d then 0 else 7)) reg.toNat := by
  induction bits generalizing reg with
  | nil => rfl
  | cons b bs ih => rw [List.foldl_cons, List.foldl_cons, ih, checkStep_toNat]

/-- R180: the first two bytes of the sequence are the header and the length packed. -/
theorem head_toNat : ∀ (cls : BitVec 2) (kind : BitVec 3) (src : BitVec 5) (len : BitVec 4),
    ((cls ++ kind ++ src ++ len ++ (0 : BitVec 2)).extractLsb' 8 8).toNat =
        cls.toNat * 64 + kind.toNat * 8 + src.toNat / 4 ∧
      ((cls ++ kind ++ src ++ len ++ (0 : BitVec 2)).extractLsb' 0 8).toNat = src.toNat % 4 * 64 + len.toNat * 4 := by
  decide +kernel

theorem checked_toNat (r : RawFrame) : r.checked.map BitVec.toNat =
    [r.cls.toNat * 64 + r.kind.toNat * 8 + r.src.toNat / 4, r.src.toNat % 4 * 64 + r.len.toNat * 4] ++
      r.payload.map BitVec.toNat := by
  obtain ⟨h1, h2⟩ := head_toNat r.cls r.kind r.src r.len
  simp only [RawFrame.checked, List.map_cons, h1, h2, List.cons_append, List.nil_append]

/-- R180: the model's check byte is the one formed in numbers. -/
theorem checkByte_toNat (r : RawFrame) : r.checkByte.toNat = r.formedCheck := by
  have h : ∀ l : List Byte, l.flatMap msbFirst =
      (l.map BitVec.toNat).flatMap fun b => [7, 6, 5, 4, 3, 2, 1, 0].map b.testBit := by
    intro l
    rw [List.flatMap_map]
    exact congrArg (l.flatMap ·) (funext msbFirst_byte)
  rw [RawFrame.checkByte, checkOf, foldl_checkStep_toNat, h, checked_toNat]
  rfl

/-! ### Fields that can be refused (R153, R179) -/

theorem stationOf_station (x : BitVec 5) (h : x.toNat < 30) : stationOf x = some ⟨x.toNat, h⟩ := by simp [stationOf, h]

theorem stationOf_other (x : BitVec 5) (h : 30 ≤ x.toNat) : stationOf x = none := by simp [stationOf, Nat.not_lt.2 h]

theorem zoneField_ok (b : Byte) (h : b.toNat < 8) : zoneField b = .ok ⟨b.toNat, h⟩ := by simp [zoneField, h]

theorem zoneField_refused (b : Byte) (h : 7 < b.toNat) : zoneField b = .error .zoneField := by
  simp [zoneField, Nat.not_lt.2 (Nat.succ_le_of_lt h)]

theorem pendingField_refused (b : Byte) (h : 6 < b.toNat) : pendingField b = .error .codeField := by
  unfold pendingField; split <;> first | omega | rfl

theorem windField_refused (b : Byte) (h : b.toNat % 4 = 3) : windField b = .error .codeField := by simp [windField, h]

theorem actionField_refused (b : Byte) (h : 3 < b.toNat % 16) : actionField b = .error .codeField := by
  unfold actionField; split <;> first | omega | rfl

theorem scopeField_refused (b n v : Byte) (h : 3 < b.toNat / 16) : scopeField b n v = .error .codeField := by
  unfold scopeField; split <;> first | omega | rfl

end Sys2Proof.Machine
end

