-- ==== Sys2Proof/Laws/Ops.lean ====
section
/-! SUPPORT. What the shared operations do, each said once: arithmetic of section 0.8, updates of one element, the rest
states of a vent, the transmit queue, the completion of an event. -/

namespace Sys2Proof.Machine

/-! ### Arithmetic (section 0.8) -/

/-- The rounded quotient lies within half a divisor of the exact one. -/
theorem roundEven_within (a b : Nat) (hb : 0 < b) :
    2 * a ≤ 2 * roundEven a b * b + b ∧ 2 * roundEven a b * b ≤ 2 * a + b := by
  have h := Nat.div_add_mod a b
  have hm := Nat.mod_lt a hb
  have h2 : 2 * (a / b) * b = 2 * (b * (a / b)) := by ring
  have h3 : 2 * (a / b + 1) * b = 2 * (b * (a / b)) + 2 * b := by ring
  unfold roundEven
  simp only
  split_ifs <;> simp only [h2, h3] <;> omega

/-- An exact half is rounded to the even neighbour. -/
theorem roundEven_tie (a b : Nat) (h : 2 * (a % b) = b) : roundEven a b % 2 = 0 := by
  unfold roundEven
  simp only
  split_ifs <;> omega

theorem clamp_mem {lo hi : Nat} (h : lo ≤ hi) (x : Nat) : lo ≤ clamp lo hi x ∧ clamp lo hi x ≤ hi := by
  unfold clamp; split_ifs <;> omega

theorem clamp_of_mem {lo hi x : Nat} (h1 : lo ≤ x) (h2 : x ≤ hi) : clamp lo hi x = x := by
  unfold clamp; split_ifs <;> omega

theorem saturate_le {n x : Nat} (h : x ≤ n) : saturate n x ≤ n := by unfold saturate; split_ifs <;> omega

@[simp] theorem due_none (now : Micros) : due none now = false := rfl
@[simp] theorem due_some (t now : Micros) : due (some t) now = decide (t ≤ now) := rfl

/-- R44: an estimate that follows the travel formula stays in 0–1000. -/
theorem travelled_le (c : VentCfg) (d : Dir) {p0 : Nat} (h : p0 ≤ 1000) (e : Micros) : travelled c d p0 e ≤ 1000 := by
  cases d
  · exact Nat.min_le_left _ _
  · exact Nat.le_trans (Nat.sub_le _ _) h

/-! ### Updates of one element

The element read is written `[v.val]`, the form simp brings `[v]` to. -/

@[simp] theorem updVent_same (s : State) (v : VentId) (f : Vent → Vent) : (s.updVent v f).vents[v.val] = f s.vents[v.val] := by
  simp [State.updVent]

theorem updVent_other (s : State) {v w : VentId} (h : w ≠ v) (f : Vent → Vent) : (s.updVent v f).vents[w.val] = s.vents[w.val] := by
  have h' : v.val ≠ w.val := fun e => h (Fin.ext e.symm)
  simp [State.updVent, Vector.getElem_set_ne, h']

@[simp] theorem updChan_same (s : State) (c : ChanId) (f : Channel → Channel) : (s.updChan c f).chans[c.val] = f s.chans[c.val] := by
  simp [State.updChan]

theorem updChan_other (s : State) {c e : ChanId} (h : e ≠ c) (f : Channel → Channel) :
    (s.updChan c f).chans[e.val] = s.chans[e.val] := by
  have h' : c.val ≠ e.val := fun k => h (Fin.ext k.symm)
  simp [State.updChan, Vector.getElem_set_ne, h']

@[simp] theorem updRecords_same (s : State) (v : VentId) (f : Records → Records) :
    (s.updRecords v f).demand[v.val] = f s.demand[v.val] := by simp [State.updRecords]

theorem updRecords_other (s : State) {v w : VentId} (h : w ≠ v) (f : Records → Records) :
    (s.updRecords v f).demand[w.val] = s.demand[w.val] := by
  have h' : v.val ≠ w.val := fun e => h (Fin.ext e.symm)
  simp [State.updRecords, Vector.getElem_set_ne, h']

@[simp] theorem updTerm_same (s : State) (t : TermId) (f : Term → Term) : (s.updTerm t f).terms[t.val] = f s.terms[t.val] := by
  simp [State.updTerm]

theorem updTerm_other (s : State) {t u : TermId} (h : u ≠ t) (f : Term → Term) : (s.updTerm t f).terms[u.val] = s.terms[u.val] := by
  have h' : t.val ≠ u.val := fun e => h (Fin.ext e.symm)
  simp [State.updTerm, Vector.getElem_set_ne, h']

@[simp] theorem setPeer_same (s : State) (n : StationNode) (x : Option Peer) : (s.setPeer n x).peers[n.val] = x := by
  simp [State.setPeer]

theorem setPeer_other (s : State) {n m : StationNode} (h : m ≠ n) (x : Option Peer) : (s.setPeer n x).peers[m.val] = s.peers[m.val] := by
  have h' : n.val ≠ m.val := fun e => h (Fin.ext e.symm)
  simp [State.setPeer, Vector.getElem_set_ne, h']

/-! ### Rest states (R40, R57, R59) -/

@[simp] theorem toIdle_state (v : VentId) (s : State) : (toIdle v s).vents[v.val].state = .idle := by simp [toIdle]
@[simp] theorem toWait_state (v : VentId) (k : RunKind) (s : State) : (toWait v k s).vents[v.val].state = .waitSupply := by
  simp [toWait]
@[simp] theorem toDwell_state (v : VentId) (s : State) : (toDwell v s).vents[v.val].state = .dwell := by simp [toDwell]
@[simp] theorem toLocked_state (v : VentId) (k : FaultKind) (s : State) : (toLocked v k s).vents[v.val].state = .locked := by
  simp [toLocked]

/-- R40: what an evaluation does, once for all. -/
theorem evaluate_cases (v : VentId) (s : State) :
    (s.wants v = none ∧ evaluate v s = toIdle v s) ∨
      ∃ d k, s.wants v = some (d, k) ∧
        ((s.vents[v.val].permits d = true ∧ evaluate v s = toWait v k s) ∨
          (s.vents[v.val].permits d = false ∧ evaluate v s = toDwell v s)) := by
  unfold evaluate
  split
  · exact .inl ⟨‹_›, rfl⟩
  · next d k h =>
    refine .inr ⟨d, k, h, ?_⟩
    split
    · next hp => exact .inl ⟨hp, rfl⟩
    · next hp => exact .inr ⟨by simpa using hp, rfl⟩

/-- R40: after an evaluation the vent is in IDLE, WAIT_SUPPLY or DWELL. -/
theorem evaluate_state (v : VentId) (s : State) :
    (evaluate v s).vents[v.val].state = .idle ∨ (evaluate v s).vents[v.val].state = .waitSupply ∨
      (evaluate v s).vents[v.val].state = .dwell := by
  rcases evaluate_cases v s with ⟨-, h⟩ | ⟨d, k, -, ⟨-, h⟩ | ⟨-, h⟩⟩ <;> rw [h] <;> simp

/-- R42, R76, R77: what giving a start does, once for all. -/
theorem giveStart_cases (v : VentId) (s : State) :
    ((endStart s).wants v = none ∧ giveStart v s = toIdle v (endStart s)) ∨
      ∃ d k, (endStart s).wants v = some (d, k) ∧
        (((endStart s).vents[v.val].permits d = true ∧ giveStart v s = beginRun v d k (endStart s)) ∨
          ((endStart s).vents[v.val].permits d = false ∧ giveStart v s = toDwell v (endStart s))) := by
  unfold giveStart
  simp only
  split
  · exact .inl ⟨‹_›, rfl⟩
  · next d k h =>
    refine .inr ⟨d, k, h, ?_⟩
    split
    · next hp => exact .inl ⟨hp, rfl⟩
    · next hp => exact .inr ⟨by simpa using hp, rfl⟩

/-- R75, R83: what the commit check does, once for all. -/
theorem commit_cases (v : VentId) (s : State) :
    (s.budgetHolds v = true ∧ commit v s = noteCommit v s.vents[v.val].lastDir (giveStart v s)) ∨
      (s.budgetHolds v = false ∧ commit v s = returnStart v s) := by
  unfold commit
  split
  · next h => exact .inl ⟨h, rfl⟩
  · next h => exact .inr ⟨by simpa using h, rfl⟩

/-- R83: noting a commit keeps the vent's state and marks only a run. -/
theorem noteCommit_same (v : VentId) (old : Option Dir) (s : State) :
    (noteCommit v old s).vents[v.val] =
      if s.vents[v.val].state.running then { s.vents[v.val] with committed := some old } else s.vents[v.val] := by
  simp [noteCommit]

theorem noteCommit_other (v w : VentId) (h : w ≠ v) (old : Option Dir) (s : State) :
    (noteCommit v old s).vents[w.val] = s.vents[w.val] := updVent_other s h _

/-- R83: what a HOLD makes of a run, once for all. -/
theorem meetHold_cases (v : VentId) (s : State) :
    (∃ old, s.vents[v.val].runStart = s.now ∧ s.vents[v.val].committed = some old ∧ meetHold v s = withdrawStart v old s) ∨
      ((s.vents[v.val].runStart ≠ s.now ∨ s.vents[v.val].committed = none) ∧
        meetHold v s = evaluate v (toIdle v (countStop v (stopInPlace v s)))) := by
  unfold meetHold State.justCommitted
  split
  · next old h =>
    split at h
    · exact .inl ⟨old, ‹_›, h, rfl⟩
    · cases h
  · next h =>
    split at h
    · exact .inr ⟨.inr h, rfl⟩
    · exact .inr ⟨.inl ‹_›, rfl⟩

/-! ### The transmit queue (R148, R149) -/

@[simp] theorem place_length (q : Queued) (l : List Queued) : (place q l).length = l.length + 1 := by
  induction l with
  | nil => rfl
  | cons x xs ih => unfold place; split <;> simp [ih]

@[simp] theorem mem_place (q x : Queued) (l : List Queued) : x ∈ place q l ↔ x = q ∨ x ∈ l := by
  induction l with
  | nil => simp [place]
  | cons y ys ih =>
    unfold place
    split
    · simp
    · simp only [List.mem_cons, ih]; tauto

@[simp] theorem replaceIn_length (f : Frame) (a : Option Nat) (l : List Queued) : (replaceIn f a l).length = l.length := by
  induction l with
  | nil => rfl
  | cons x xs ih => unfold replaceIn; split <;> simp [ih]

@[simp] theorem placeFirst_length (q : Queued) (l : List Queued) : (placeFirst q l).length = l.length + 1 := by
  have h := congrArg List.length (List.takeWhile_append_dropWhile (p := fun x => decide (x.frame.cls < q.frame.cls)) (l := l))
  simp only [List.length_append] at h
  simp only [placeFirst, List.length_append, List.length_cons]
  omega

@[simp] theorem mem_placeFirst (q x : Queued) (l : List Queued) : x ∈ placeFirst q l ↔ x = q ∨ x ∈ l := by
  conv_rhs => rw [← List.takeWhile_append_dropWhile (p := fun x => decide (x.frame.cls < q.frame.cls)) (l := l)]
  simp only [placeFirst, List.mem_append, List.mem_cons]
  tauto

/-- R157: a drop leaves as many frames waiting as before. -/
@[simp] theorem succeed_length (q : Queued) (l : List Queued) : (succeed q l).length = l.length := by
  unfold succeed
  split
  · rename_i x hx
    have hm : x ∈ l := List.mem_of_find?_eq_some hx
    rw [placeFirst_length, List.length_erase_of_mem hm]
    have := List.length_pos_of_mem hm
    omega
  · rfl

/-- R149: a frame that is not taken leaves everything as it was. -/
theorem offer_refused (f : Frame) (a : Option Nat) (s : State) (h : s.takes f = false) : offer f a s = s := by
  have h' : s.offerCase f = .refused := by simpa [State.takes] using h
  simp [offer, h']

/-- R149: frames are taken in RUN and LINE_OK only. -/
theorem takes_only (f : Frame) (s : State) (h : s.takes f = true) : s.boot.station = .run ∧ s.line.state = .ok := by
  have h' : s.offerCase f ≠ .refused := by simpa [State.takes] using h
  by_cases ht : s.takesOffers = true
  · simpa [State.takesOffers, State.inRun] using ht
  · exact absurd (by simp [State.offerCase, ht]) h'

/-! ### The completion of an event -/

/-- Outside JOIN and RUN no area is recomputed: only the demands still waiting are taken. -/
theorem rebalance_inactive (w : Bool) (before s : State) (h : s.active = false) :
    rebalance w before s = settleDemands everyVent before s := by
  simp [rebalance, h]

/-- An operation that leaves a state alone for each of the eight leaves it alone for all. -/
theorem forEight_self (f : State → Fin 8 → State) (s : State) (h : ∀ v, f s v = s) : forEight f s = s := by
  have fold : ∀ l : List (Fin 8), l.foldl f s = s := by
    intro l
    induction l with
    | nil => rfl
    | cons v l ih => rw [List.foldl_cons, h v, ih]
  exact fold eight

/-- With no change of records and no lock released, nothing is taken by the Drive Unit. -/
theorem settleDemands_self (who : VentId → Bool) (s : State) : settleDemands who s s = s := by
  have h1 : handOn who s s = s := forEight_self _ s fun v => if_neg (by simp)
  have h2 : evaluateReleased who s s = s := forEight_self _ s fun v => if_neg (by
    intro h
    simp at h
    exact absurd (h.1.2.symm.trans h.2) (by decide))
  rw [settleDemands, h1, h2]

/-- A command that cannot be taken lets time pass and does nothing else. -/
theorem event_notTaken (dt : Micros) (taken : State → Bool) (c : State → Causes) (f : State → State) (s : State)
    (h : taken (s.tick dt) = false) : event dt taken c f s = .next (s.tick dt) := by
  simp [event, h]

/-- A command that is taken makes its effect and completes it. -/
theorem event_taken (dt : Micros) (taken : State → Bool) (c : State → Causes) (f : State → State) (s : State)
    (h : taken (s.tick dt) = true) :
    event dt taken c f s = .next (finish (c (s.tick dt)) (s.tick dt) (f (s.tick dt))) := by
  simp [event, h]

end Sys2Proof.Machine
end

