-- ==== Sys2Proof/Tests/Slice0.lean ====
section
/-! SUPPORT. Tests of the model: the ill-formed commands WellFormed refuses, worked examples and tables of the spec, and,
for every statement that has hypotheses, a concrete state and operands that meet them all (`witness_…`), with the
clauses of a statement tried at the ends of their ranges (`test_…`). -/

namespace Sys2Proof.Tests

set_option Elab.async false

open Sys2Proof Sys2Proof.Machine

/-! ### Ill-formed commands are refused -/

theorem test_image_length_refused :
    (Instr.imageReadComplete 0 (List.replicate 201 0)).wellFormed = false ∧
      (Instr.imageReadComplete 0 (List.replicate 202 0)).wellFormed = true := by decide +kernel

theorem test_draw_width_refused :
    (Instr.drawReceived 0 0 1 { running := 65536, inrush := 0, pending := none }).wellFormed = false ∧
      (Instr.drawReceived 0 0 1 { running := 0, inrush := 65536, pending := none }).wellFormed = false := by decide

def quietStatus : StatusContent :=
  { fireMode := false, battery := false, lineDegraded := false, terminalFault := false, nodeClash := false,
    areaShort := false, posUnknown := false, zones := 0, epoch := 4, running := 0, pending := none, locked := 0,
    rxErrors := 0, cause := none }

theorem test_status_width_refused :
    (Instr.statusReceived 0 0 1 { quietStatus with running := 65536 }).wellFormed = false ∧
      (Instr.statusReceived 0 0 1 { quietStatus with locked := 256 }).wellFormed = false ∧
      (Instr.statusReceived 0 0 1 { quietStatus with rxErrors := 256 }).wellFormed = false := by decide

def plainArea : AreaContent :=
  { zone := 3, primary := 240, offer := 300, called := 0, achieved := 0, sat := false, unknown := false, short := false }

theorem test_area_width_refused :
    (Instr.areaReceived 0 0 1 { plainArea with primary := 65536 }).wellFormed = false ∧
      (Instr.areaReceived 0 0 1 { plainArea with offer := 65536 }).wellFormed = false ∧
      (Instr.areaReceived 0 0 1 { plainArea with called := 65536 }).wellFormed = false ∧
      (Instr.areaReceived 0 0 1 { plainArea with achieved := 65536 }).wellFormed = false := by decide

def westStorm : WeatherContent := { speed := 160, dir := 261, wind := .storm, rain := true, vaneFault := false }

theorem test_weather_width_refused :
    (Instr.weatherReceived 0 0 1 { westStorm with speed := 65536 }).wellFormed = false ∧
      (Instr.weatherReceived 0 0 1 { westStorm with dir := 65536 }).wellFormed = false := by decide

theorem test_comfort_width_refused :
    (Instr.comfortReceived 0 0 8 65536 1).wellFormed = false ∧
      (Instr.comfortReceived 0 0 8 500 256).wellFormed = false := by decide

theorem test_scope_width_refused :
    (Instr.overrideOpen 0 0 (.station 256)).wellFormed = false ∧
      (Instr.overrideClose 0 0 (.vent 256 0)).wellFormed = false ∧
      (Instr.overrideHold 0 0 (.vent 0 256)).wellFormed = false ∧
      (Instr.overrideRelease 0 0 (.station 256)).wellFormed = false := by decide

theorem test_reading_range_refused :
    (Instr.loopReading 0 0 601).wellFormed = false ∧ (Instr.loopReading 0 4 100).wellFormed = false ∧
      (Instr.vaneReading 0 0 1024).wellFormed = false ∧ (Instr.vaneReading 0 5 100).wellFormed = false := by decide

/-! ### The spec's worked examples -/

/-- Section 6.2, worked cases: speed. -/
theorem test_speed_cases :
    speedOf 750 [62500, 60000, 65000, 62500] = 120 ∧
      speedOf 750 (joinHistory [62500, 60000, 65000, 62500] 50000) = 126 ∧ speedOf 1 [4000] = 2 ∧ speedOf 3 [20000] = 2 ∧
      speedOf 5000 [2000, 2000, 2000, 2000] = 600 := by decide

/-- Section 5.2, worked cases: rounding. -/
theorem test_area_cases :
    areaReport 66840000 = 261 ∧ areaReport 52980000 = 207 ∧ areaReport 128000 = 0 ∧ areaReport 384000 = 2 ∧
      areaReport 640000 = 2 ∧ areaReport 8160000000 = 31875 ∧ areaSaturates 8160000000 = false := by decide

/-- Section 3.15: To = 450, from 200 to 650 and 800; from 0 to 300. -/
theorem test_stop_times :
    let c : VentCfg := { VentCfg.unused with used := true, openTime := 450, closeTime := 380 }
    stopTimeOf c .opening 0 200 650 = 20250000 ∧ stopTimeOf c .opening 0 200 800 = 27000000 ∧
      stopTimeOf c .opening 0 0 300 = 13500000 ∧ travelled c .opening 200 8000000 = 377 ∧
      travelled c .opening 200 12000000 = 466 ∧ travelled c .closing 800 30400000 = 0 := by decide

/-- Section 3.16: To = 320, Tc = 300. -/
theorem test_reversal_positions :
    let c : VentCfg := { VentCfg.unused with used := true, openTime := 320, closeTime := 300 }
    travelled c .opening 0 6400000 = 200 ∧ travelled c .closing 200 6000000 = 0 ∧ travelled c .closing 200 2900000 = 104 := by
  decide

/-- Section 5.9, step 1: a requirement of 900 and a deficit of 220 over the offers 0, 300 and 180. -/
theorem test_walk_shares :
    let l : List Share := [⟨3, 420, 0⟩, ⟨7, 0, 300⟩, ⟨12, 260, 180⟩]
    deficit 900 l = 220 ∧ walk 3 220 l = (0, 0) ∧ walk 7 220 l = (220, 0) ∧ walk 12 220 l = (0, 0) := by decide

/-- Section 6.8: the angle between a wind and a facing, across north. -/
theorem test_angles : angleBetween 261 240 = 21 ∧ angleBetween 261 60 = 159 ∧ angleBetween 350 10 = 20 := by decide

/-- Section 0.8, Epoch comparison, at the ends of its ranges. -/
theorem test_epoch_order :
    newer 5 4 = true ∧ newer 4 4 = false ∧ newer 131 4 = true ∧ newer 132 4 = false ∧ newer 0 5 = false ∧
      newer 0 255 = true := by decide

/-- R179, R180, by hand: RESET of epoch 5 from station 1 is class 0, kind 1, source 1, length 1; the check byte is formed
over 08, 44 and 05 hexadecimal. -/
theorem test_reset_frame_bytes : (Frame.raw 1 (.reset 5)).checked = [0x08, 0x44, 0x05] := by decide

/-- R180: one step of the register: the bit going out differs from the bit coming in. -/
theorem test_check_steps : checkOf [0x00] = 0x00 ∧ checkOf [0x01] = 0x07 ∧ checkOf [0x02] = 0x0E := by decide

/-- R141: five equal bits, the start bit counted, are followed by the opposite one, at the end of the frame too. -/
theorem test_bit_inserted :
    insertBits false 1 [false, false, false, false, true] = [false, false, false, false, true, true] ∧
      insertBits false 1 [true, true, true, true, true] = [true, true, true, true, true, false] := by decide

/-- R141: six equal bits before the end of the check byte; a length of 11 is read and named; a frame not yet ended is
none. -/
theorem test_line_read :
    let cut := fun n => ((Frame.raw 1 (.reset 5)).lineBits).take n
    commandOfLine 0 20 (cut 16 ++ List.replicate 6 true) = some (.frameDiscarded 0 .abandoned) ∧
      commandOfLine 0 20 (cut 16 ++ List.replicate 6 false) = some (.frameDiscarded 0 .violation) ∧
      commandOfLine 0 20 (cut 16) = none ∧
      (let r : RawFrame := { cls := 0, kind := 1, src := 1, len := 11, payload := List.replicate 11 5, check := 0 }
       commandOfLine 0 20 { r with check := r.checkByte }.lineBits) = some (.frameDiscarded 0 .length) := by
  decide +kernel

/-- The hypotheses of the statement on bits: a sequence with six recessive bits, and a raw frame of its own length. -/
theorem witness_BitsInserted :
    (removeBits false 1 (List.replicate 6 true)).2 = some .abandoned ∧
      (Frame.raw 1 (.reset 5)).payload.length = (Frame.raw 1 (.reset 5)).len.toNat := by decide +kernel

/-- R172, R112: fields at and past the ends of their ranges. -/
theorem test_clamps :
    let low := readImage (List.replicate 202 0)
    let high := readImage (List.replicate 202 0xFF)
    low.feedLimit = 10 ∧ low.maxMotors = 1 ∧ low.windyOn = 10 ∧ low.alpha = 30 ∧ high.feedLimit = 2000 ∧
      high.maxMotors = 8 ∧ high.windyOn = 600 ∧ high.windyOff = 599 ∧ high.stormOn = 600 ∧ high.stormOff = 599 ∧
      (high.vents[0]).used = true ∧ (high.vents[0]).area = 4000 ∧ (high.vents[0]).facing = none := by decide

/-- A used vent, and one with a facing. -/
theorem witness_ImageClamped :
    ((readImage (List.replicate 202 0xFF)).vents[0]).used = true ∧
      ((readImage (List.replicate 202 0x80)).vents[0]).facing = some 359 := by decide +kernel

/-! ### A site, and states of it -/

def outlet : VentCfg :=
  { VentCfg.unused with
    used := true, comfort := true, rainClose := true, stormClose := true, role := .primary, home := 3, mask := 8,
    facing := some 90, area := 200, cd := 160, openTime := 450, closeTime := 380, running := 20, inrush := 40,
    stall := 60 }

/-- A reserve vent on C1. -/
def spare : VentCfg := { outlet with chan := 1, role := .reserve, home := 4, mask := 255 }

/-- A tandem inlet on C2 and C3. -/
def airInlet : VentCfg := { outlet with chan := 2, tandem := true, role := .inlet, facing := none }

def windSite : Image :=
  { Image.empty with
    node := 3, feedLimit := 400, maxMotors := 4, inrushMs := 400, manualHold := 30, alpha := 60, windyOn := 80,
    windyOff := 60, stormOn := 150, stormOff := 120, windyHold := 60, stormHold := 300,
    vents := #v[outlet, spare, airInlet, .unused, .unused, .unused, .unused, .unused],
    terms := #v[.smokeLoop 3, .windPulse, .windVane, .mainsMonitor, .callPoint 6, .signalOut],
    signals := 1, anemometer := 750, vaneOffset := 15 }

def keySite : Image := { windSite with terms := #v[.rainSense, .keyOpen, .keyClose, .manualOpen 1, .resetButton, .lampFire] }

/-- JOIN, with the image given. -/
def joining (k : Image) : State :=
  { State.reset with
    boot := { station := .join, loader := .done, attempt := 1, attemptAt := 0, joinEnds := some 1000000 }, image := k,
    terms := Vector.ofFn fun t : Fin 6 => startTerm k.terms[t] false 0 }

/-- RUN at epoch 4, nothing in alarm, nothing moving. -/
def serving (k : Image) : State :=
  { joining k with
    boot := { (joining k).boot with station := .run, joinEnds := none }, fire := { zones := 0, epoch := 4, known := true },
    line := { (joining k).line with heartbeat := some 2000000 } }

def still : State := serving windSite

/-- V0 opens C0 from 0 to 200, as a COMFORT frame asked. -/
def driving : State :=
  { still with
    now := 1000000
    pending := [.stopTimeReached 9000000 0]
    demand := still.demand.set 0
      { Records.reset with comfort := some { target := .pos 200, origin := .gateway, expiry := some 900000000 } }
    vents := still.vents.set 0
      { Vent.reset with
        state := .runOpen, target := .pos 200, cls := .comfort, runKind := some .toStop, runStart := 1000000,
        stopTime := some 10000000, lastDir := some .opening }
    chans := still.chans.set 0
      { Channel.reset with
        estimate := some 0, startPos := some 0, driven := some .opening, window := some 1300000,
        inrush := some 1400000 } }

/-- The same run with its start window and its inrush window over. -/
def drivingOn : State := driving.updChan 0 fun x => { x with window := none, drew := true, inrush := none, reading := 2000 }

/-- V0 announced, its DRAW being sent, a peer drawing `p`. -/
def announcing (p : Nat) : State :=
  { still with
    demand := driving.demand
    vents := still.vents.set 0 { Vent.reset with state := .announced, target := .pos 200, cls := .comfort, joinTime := 7 }
    chans := still.chans.set 0 { Channel.reset with estimate := some 0 }
    supply := { start := some { vent := 0, id := 2 }, mark := some 2, lastDraw := none, nextId := 3 }
    peers := still.peers.set 5 (some { Peer.created 0 with running := p })
    line := { still.line with
      sending := true,
      tx := some { frame := .draw { running := 0, inrush := 40, pending := none }, stamp := 1, ann := some 2 } } }

/-- The state a command leaves. -/
def after (i : Instr) (s : State) : State :=
  match exec i s with
  | .next t => t
  | _ => s

/-! ### The laws hold of concrete states -/

theorem driveLaw_of (s : State) (h : s.image.ChannelsApart)
    (ho : ∀ c : ChanId, s.chans[c].driven = some .opening → ∃ v : VentId, c ∈ s.channels v ∧ s.vents[v].state = .runOpen)
    (hc : ∀ c : ChanId, s.chans[c].driven = some .closing → ∃ v : VentId, c ∈ s.channels v ∧ s.vents[v].state = .runClose)
    (hr : s.boot.station = .run)
    (hs : ∀ v : VentId, s.supply.start.map Start.vent = some v → s.vents[v].state = .announced) : s.DriveLaw :=
  ⟨h, fun c d hd => by cases d; exacts [ho c hd, hc c hd], fun hn => absurd hr hn, fun x hx => hs x.vent (by simp [hx])⟩

theorem driving_driveLaw : driving.DriveLaw :=
  driveLaw_of _ (by unfold Image.ChannelsApart; decide +kernel) (by decide +kernel) (by decide +kernel) rfl
    (by decide +kernel)

theorem drivingOn_driveLaw : drivingOn.DriveLaw :=
  driveLaw_of _ (by unfold Image.ChannelsApart; decide +kernel) (by decide +kernel) (by decide +kernel) rfl
    (by decide +kernel)

theorem inTravel_of (p : Position) (h : p.all (decide <| · ≤ 1000) = true) : inTravel p :=
  fun x hx => by subst hx; simpa using h

theorem driving_steps : ∃ t, step driving = .next t := ⟨_, rfl⟩

theorem witness_StepTakesFront : State.reset.pending = [] := rfl

theorem witness_QueueLawKept : driving.QueueLaw ∧ ∃ t, step driving = .next t :=
  ⟨by unfold State.QueueLaw; decide +kernel, driving_steps⟩

theorem recordInTravel_of (r : Option Record)
    (h : (match r with
      | some { target := .pos p, .. } => decide (p ≤ 1000)
      | _ => true) = true) : recordInTravel r := by
  rintro x rfl y hy
  obtain ⟨target, _, _⟩ := x
  simp only at hy
  subst hy
  simpa using h

theorem driving_positionLaw : driving.PositionLaw := by
  have hc : ∀ c : ChanId, (driving.chans[c].estimate.all (decide <| · ≤ 1000)) = true ∧
      (driving.chans[c].startPos.all (decide <| · ≤ 1000)) = true ∧
      (driving.retention[c].all (decide <| · ≤ 1000)) = true := by decide +kernel
  have hv : ∀ v : VentId, (driving.vents[v].target = .pos 200 ∨ driving.vents[v].target = .pos 0) ∧
      driving.demand[v].brigade = none ∧ driving.demand[v].fire = none ∧ driving.demand[v].weather = none ∧
      driving.demand[v].manual = none ∧ (driving.demand[v].comfort = none ∨
        driving.demand[v].comfort = some { target := .pos 200, origin := .gateway, expiry := some 900000000 }) := by
    decide +kernel
  refine ⟨fun c => ⟨inTravel_of _ (hc c).1, inTravel_of _ (hc c).2.1, inTravel_of _ (hc c).2.2⟩, fun v => ?_⟩
  obtain ⟨h1, h2, h3, h4, h5, h6⟩ := hv v
  rw [h2, h3, h4, h5]
  refine ⟨?_, recordInTravel_of _ rfl, recordInTravel_of _ rfl, recordInTravel_of _ rfl, recordInTravel_of _ rfl, ?_⟩
  · intro x hx
    rcases h1 with h1 | h1 <;> rw [h1] at hx <;> cases hx <;> decide
  · rcases h6 with h6 | h6 <;> rw [h6] <;> exact recordInTravel_of _ rfl

theorem witness_PositionLawKept : driving.PositionLaw ∧ ∃ t, step driving = .next t := ⟨driving_positionLaw, driving_steps⟩

theorem witness_DriveLawKept : driving.DriveLaw ∧ ∃ t, step driving = .next t := ⟨driving_driveLaw, driving_steps⟩

theorem witness_RetentionLawKept : driving.DriveLaw ∧ driving.RetentionLaw ∧ ∃ t, step driving = .next t :=
  ⟨driving_driveLaw, by unfold State.RetentionLaw; decide +kernel, driving_steps⟩

theorem witness_MotorLawKept : driving.DriveLaw ∧ driving.MotorLaw ∧ ∃ t, step driving = .next t :=
  ⟨driving_driveLaw, ⟨by decide +kernel, fun x hx => by cases hx⟩, driving_steps⟩

theorem driving_arbiterLaw : driving.ArbiterLaw := by
  unfold State.ArbiterLaw State.atRestOutsideService State.batteryHolds State.firePatternHolds State.weatherRecordHolds
    State.holdsDemand
  decide +kernel

theorem witness_ArbiterLawKept : driving.ArbiterLaw ∧ ∃ t, step driving = .next t := ⟨driving_arbiterLaw, driving_steps⟩

theorem driving_outputLaw : driving.OutputLaw := by
  have h : ∀ t : TermId, driving.outputs[t] = true ↔ (driving.fn t = .lampFire ∧ driving.fireMode = true) ∨
      (driving.fn t = .signalOut ∧
        ∃ i : Fin 9, driving.image.signals.getLsbD i = true ∧ driving.conditions[i.val]? = some true) := by
    decide +kernel
  exact h

theorem witness_OutputLawKept : driving.OutputLaw ∧ ∃ t, step driving = .next t := ⟨driving_outputLaw, driving_steps⟩

theorem witness_PeerLawKept : driving.PeerLaw ∧ ∃ t, step driving = .next t :=
  ⟨by unfold State.PeerLaw; decide +kernel, driving_steps⟩

theorem runLaw_of (s : State) (hc : ∀ c : ChanId, s.chans[c].driven.isSome = true → s.chans[c].startPos = s.chans[c].estimate)
    (hs : ∀ v : VentId, s.vents[v].stopTime.isSome = true →
      s.vents[v].state.running = true ∧ s.vents[v].runKind = some .toStop ∧
        ∀ c ∈ s.channels v, s.chans[c].estimate.isSome = true)
    (ho : ∀ v : VentId, s.vents[v].state = .runOpen → s.vents[v].lastDir = some .opening)
    (hd : ∀ v : VentId, s.vents[v].state = .runClose → s.vents[v].lastDir = some .closing)
    (hv : ∀ v : VentId, s.vents[v].committed = none ∨ s.vents[v].committed = some none) : s.RunLaw :=
  ⟨hc, hs, fun v d h => ⟨by cases d; exacts [ho v h, hd v h],
    fun _ h => by rcases hv v with e | e <;> rw [e] at h <;> cases h⟩⟩

theorem driving_runLaw : driving.RunLaw :=
  runLaw_of _ (by decide +kernel) (by decide +kernel) (by decide +kernel) (by decide +kernel) (by decide +kernel)

/-- V0's run to its end at its limit, and an anchoring run of an UNKNOWN channel at its end filter. -/
theorem witness_EstimatesLatch :
    driving.DriveLaw ∧ driving.RunLaw ∧ (∃ t, exec (.runLimitReached 69500000 0) driving = .next t) ∧
      isReset (.runLimitReached 69500000 0) = false ∧ driving.boot.station ≠ .loading ∧
      (after (.runLimitReached 69500000 0)
        (driving.updVent 0 fun x => { x with runKind := some .toEnd, stopTime := none })).chans[0].estimate = none ∧
      (after (.endFilterExpiry 0 0) (driving.updChan 0 fun x =>
        { x with estimate := none, startPos := none, endFilter := some 0 })).chans[0].estimate = some 1000 :=
  ⟨driving_driveLaw, driving_runLaw, ⟨_, rfl⟩, by decide +kernel⟩

/-- V0 dwells until 300,000 µs after an opening run. -/
def dwelling : State :=
  still.updVent 0 fun x => { x with state := .dwell, lastDir := some .opening, dwellEnds := some 300000 }

theorem dwelling_arbiterLaw : dwelling.ArbiterLaw := by
  unfold State.ArbiterLaw State.atRestOutsideService State.batteryHolds State.firePatternHolds State.weatherRecordHolds
    State.holdsDemand
  decide +kernel

theorem dwelling_runLaw : dwelling.RunLaw := by
  refine runLaw_of _ ?_ ?_ ?_ ?_ ?_ <;> decide +kernel

theorem witness_ReversalsDwell :
    dwelling.ArbiterLaw ∧ dwelling.RunLaw ∧ dwelling.DriveLaw ∧ isReset (.dwellExpiry 300000 0) = false ∧
    dwelling.boot.station ≠ .loading ∧
      (∃ t, exec (.dwellExpiry 300000 0) dwelling = .next t) ∧ dwelling.vents[0].lastDir = some .opening ∧
      dwelling.vents[0].state = .dwell ∧ dwelling.vents[0].dwellEnds = some 300000 ∧ 300000 ≤ dwelling.now + 300000 ∧
      (after (.overrideClose 0 20 .all) driving).vents[0].state = .dwell :=
  ⟨dwelling_arbiterLaw, dwelling_runLaw, driveLaw_of _ (by unfold Image.ChannelsApart; decide +kernel) (by decide +kernel) (by decide +kernel) rfl
    (by decide +kernel), rfl, by decide +kernel, ⟨_, rfl⟩, by decide +kernel⟩

/-- V1 locked by its fourth stall, at rest otherwise. -/
def lockedStill : State := still.updVent 1 fun x => { x with state := .locked, fault := .stallLimit, retries := 3 }

theorem witness_LocksHold :
    lockedStill.DriveLaw ∧ lockedStill.EpochLaw ∧ isReset (.overrideHold 0 20 .all) = false ∧
    lockedStill.boot.station ≠ .loading ∧
      (∃ t, exec (.overrideHold 0 20 .all) lockedStill = .next t) ∧ lockedStill.vents[1].state = .locked ∧
      (after (.overrideHold 0 20 .all) lockedStill).vents[1].fault = .stallLimit ∧
      (after (.overrideClose 0 20 .all) lockedStill).vents[1].state ≠ .locked ∧
      (after (.resetReceived 0 20 .panel 5) lockedStill).vents[1].state ≠ .locked :=
  ⟨driveLaw_of _ (by unfold Image.ChannelsApart; decide +kernel) (by decide +kernel) (by decide +kernel) rfl
    (by decide +kernel), fun _ => rfl, rfl, by decide +kernel, ⟨_, rfl⟩, by decide +kernel⟩

/-! ### The Fire State Logic -/

/-- Zone 3 in alarm. -/
def burning : State := { still with fire := { still.fire with zones := 8 } }

/-- The three cases of the statement: a known epoch kept, a known epoch replaced, an unknown one in JOIN. -/
theorem witness_AlarmsLatch :
    driving.EpochLaw ∧ (∃ t, step driving = .next t) ∧ isReset (.calmTimeout 0) = false ∧
      (∃ t, exec (.calmTimeout 0) burning = .next t) ∧ burning.fire.known = true ∧
      (after (.calmTimeout 0) burning).fire.epoch = burning.fire.epoch ∧ memberOf 3 burning.fire.zones = true ∧
      (joining windSite).fire.known = false ∧ (joining windSite).boot.station = .join :=
  ⟨fun _ => rfl, driving_steps, rfl, ⟨_, rfl⟩, by decide +kernel⟩

/-- R8 on either side of each range of epoch distance: 0, 1, 127, 128, 255; an unknown epoch is adopted. -/
theorem test_alarm_epochs :
    (after (.alarmReceived 0 20 5 6 4) burning).fire = { zones := 72, epoch := 4, known := true } ∧
      (after (.alarmReceived 0 20 5 6 5) burning).fire = { zones := 64, epoch := 5, known := true } ∧
      (after (.alarmReceived 0 20 5 6 131) burning).fire = { zones := 64, epoch := 131, known := true } ∧
      (after (.alarmReceived 0 20 5 6 132) burning).fire = burning.fire ∧
      (after (.alarmReceived 0 20 5 6 3) burning).fire = burning.fire ∧
      (after (.alarmReceived 0 20 5 6 9) (joining windSite)).fire = { zones := 64, epoch := 9, known := true } := by
  decide +kernel

theorem witness_AlarmAndStatusHandled :
    burning.active = true ∧ burning.fire.known = true ∧ (joining windSite).active = true ∧
      (joining windSite).fire.known = false ∧ burning.fire.epoch = 4 ∧ ((5 : Epoch) - 4).toNat = 1 ∧
      ((131 : Epoch) - 4).toNat = 127 ∧ ((132 : Epoch) - 4).toNat = 128 ∧ ((3 : Epoch) - 4).toNat = 255 ∧
      quietStatus.epoch = burning.fire.epoch := by decide +kernel

/-- R9, R13: a newer STATUS with a call point active. -/
theorem test_status_call_point :
    let s := burning.updTerm 4 fun x => { x with debounced := true }
    (after (.statusReceived 0 20 5 { quietStatus with zones := 1, epoch := 5 }) s).fire =
      { zones := 65, epoch := 5, known := true } := by decide +kernel

theorem witness_ResetHandled :
    burning.active = true ∧ burning.fire.known = true ∧ (burning.fn 0).isLoop = true ∧ ((5 : Epoch) - 4).toNat = 1 := by
  decide +kernel

theorem test_reset_epochs :
    (after (.resetReceived 0 20 .panel 5) burning).fire = { zones := 0, epoch := 5, known := true } ∧
      (after (.resetReceived 0 20 .panel 5) burning).terms[0].loop = .off ∧
      (after (.resetReceived 0 20 .panel 132) burning).fire = burning.fire := by decide +kernel

/-- The reset button pressed 50 ms ago. -/
def pressed (s : State) : State :=
  ((s.setPin 4 true).updTerm 4 fun x => { x with debounce := some 50000 })

/-- A frame of each kind with the next epoch, and the button of a state in RUN. -/
theorem witness_NewerEpochReleases :
    (pressed (serving keySite)).boot.station = .run ∧ (pressed (serving keySite)).fn 4 = .resetButton ∧
      (pressed (serving keySite)).pins[4] = true ∧ (pressed (serving keySite)).terms[4].debounce = some 50000 ∧
      50000 ≤ (pressed (serving keySite)).now + 50000 ∧ (pressed (serving keySite)).fire.known = true ∧
      ((pressed (serving keySite)).fire.epoch + 1 - (pressed (serving keySite)).fire.epoch).toNat = 1 ∧
      { quietStatus with epoch := 5 }.zones = 0 ∧
      lockedStill.active = true ∧ lockedStill.fire.known = true ∧ ((5 : Epoch) - 4).toNat = 1 ∧
      lockedStill.vents[1].state = .locked ∧ (∀ k : TermId, lockedStill.terms[k].debounced = false) ∧
      lockedStill.ArbiterLaw := by
  unfold State.ArbiterLaw State.atRestOutsideService State.batteryHolds State.firePatternHolds State.weatherRecordHolds
    State.holdsDemand
  decide +kernel

/-- R12 for each form of a newer epoch. -/
theorem test_newer_epoch_unlocks :
    [Instr.resetReceived 0 20 .panel 5, .alarmReceived 0 20 5 6 5, .statusReceived 0 20 5 { quietStatus with epoch := 5 }].all
        (fun i => decide ((after i lockedStill).vents[1].state ≠ .locked ∧ (after i lockedStill).vents[1].retries = 0)) = true ∧
      (after (.debounceExpiry 50000 4)
        (pressed ((serving keySite).updVent 1 fun x => { x with state := .locked }))).vents[1].state ≠ .locked := by
  decide +kernel

/-- R12, R132, for each form of a newer epoch: the loop on T0, its power cycle under way or its confirmation running, is off for
5 s from the event. -/
theorem test_newer_epoch_cycles_loops :
    let confirming := { Term.reset with loop := .confirming, band := some .alarm, confirm := some 2000000, fault := true }
    let cycling := { Term.reset with loop := .off, cycle := some 4000000 }
    let cut := fun (x : Term) (now : Micros) => { Term.reset with loop := .off, cycle := some (now + 5000000), fault := x.fault }
    let button := pressed (serving { keySite with terms := keySite.terms.set 0 (.smokeLoop 3) })
    [confirming, cycling].all (fun x =>
      [Instr.resetReceived 7 20 .panel 5, .alarmReceived 7 20 5 6 5, .statusReceived 7 20 5 { quietStatus with epoch := 5 }].all
          (fun i => decide ((after i (still.updTerm 0 fun _ => x)).terms[0] = cut x 7)) &&
        decide ((after (.debounceExpiry 50000 4) (button.updTerm 0 fun _ => x)).terms[0] = cut x 50000)) = true := by
  decide +kernel

/-! ### Formats and start-up -/

theorem witness_FrameRoundTrip :
    [Frame.alarm 3 4, .reset 5, .draw { running := 65535, inrush := 0, pending := some .fire },
      .status { quietStatus with cause := some .resetPin, rxErrors := 255 }, .area { plainArea with achieved := 65535 },
      .weather westStorm].all Frame.fits = true := by decide

theorem test_frames_round_trip :
    [Frame.alarm 3 4, .reset 5, .draw { running := 65535, inrush := 0, pending := some .fire },
      .status { quietStatus with cause := some .resetPin, rxErrors := 255 }, .area { plainArea with achieved := 65535 },
      .weather westStorm].all (fun f =>
        match (f.raw 29).validate with
        | .ok v => decide (v = f.asValid 29 ∧ commandOfLine 1 9 (f.raw 29).lineBits = some ((f.asValid 29).command 1 9))
        | .error _ => false) = true := by decide +kernel

/-- A raw frame with a right check byte. -/
def rawFrame (cls : BitVec 2) (kind : BitVec 3) (src : BitVec 5) (payload : List Byte) : RawFrame :=
  let r : RawFrame := { cls, kind, src, len := BitVec.ofNat 4 payload.length, payload, check := 0 }
  { r with check := r.checkByte }

/-- OVERRIDE CLOSE of zone 7, and of this station's V8, which is no vent. -/
def overrideZone : RawFrame := rawFrame 0 2 31 [0x11, 7, 0]
def overrideVent : RawFrame := rawFrame 0 2 31 [0x33, 3, 8]

/-- COMFORT of zone 3 at 500 for 30 minutes. -/
def comfortFrame : RawFrame := rawFrame 2 7 30 [0x08, 0x01, 0xF4, 30]

/-- R180, by hand, over 08 44 05, over 17 CC 11 07 00 and over BF 90 08 01 F4 1E hexadecimal. -/
theorem test_check_bytes :
    (Frame.raw 1 (.reset 5)).check = 0x45 ∧ overrideZone.check = 0xFB ∧ comfortFrame.check = 0xBD := by decide +kernel

/-- Raw frames with nothing wrong, and one wrong in each of the six ways at the ends of its range. -/
theorem witness_FrameRoundTrip_raw :
    (∀ r ∈ [overrideZone, overrideVent, comfortFrame], (∀ c, ¬ r.wrong c) ∧ r.payload.length = r.len.toNat) ∧
      ({ comfortFrame with check := 0xBC } : RawFrame).wrong .checkByte ∧ (rawFrame 2 7 30 [8, 1, 0xF4]).wrong .length ∧
      (rawFrame 1 7 30 [8, 1, 0xF4, 30]).wrong .classOfKind ∧ (rawFrame 2 7 29 [8, 1, 0xF4, 30]).wrong .sender ∧
      (rawFrame 0 2 31 [0x11, 8, 0]).wrong .zoneField ∧ (rawFrame 0 2 31 [0x34, 3, 8]).wrong .codeField := by
  refine ⟨fun r hr => ?_, by simp only [RawFrame.wrong]; decide +kernel⟩
  simp only [List.mem_cons, List.not_mem_nil, or_false] at hr
  rcases hr with rfl | rfl | rfl <;>
    exact ⟨fun c => by cases c <;> simp only [RawFrame.wrong, not_false_eq_true] <;> decide +kernel, by decide +kernel⟩

/-- R179: OVERRIDE and COMFORT from the line. -/
theorem test_override_comfort_read :
    commandOfLine 1 9 overrideZone.lineBits = some (.overrideClose 1 9 (.zone 7)) ∧
      commandOfLine 1 9 overrideVent.lineBits = some (.overrideRelease 1 9 (.vent 3 8)) ∧
      (rawFrame 0 2 31 [0x00, 9, 9]).command 1 9 = .overrideOpen 1 9 .all ∧
      (rawFrame 0 2 31 [0x22, 30, 9]).command 1 9 = .overrideHold 1 9 (.station 30) ∧
      commandOfLine 1 9 comfortFrame.lineBits = some (.comfortReceived 1 9 8 500 30) ∧
      (rawFrame 0 1 31 [5]).command 1 9 = .resetReceived 1 9 .panel 5 := by decide +kernel

/-- R153: just past the ends of the ranges, and R179: a length that disagrees with the STATUS flag. -/
theorem test_frames_refused :
    [({ comfortFrame with check := 0xBC }, DiscardCause.checkByte), (rawFrame 2 7 30 [8, 1, 0xF4], .length),
      (rawFrame 1 7 30 [8, 1, 0xF4, 30], .classOfKind), (rawFrame 3 0 1 [3, 4], .classOfKind),
      (rawFrame 2 7 31 [8, 1, 0xF4, 30], .sender), (rawFrame 0 2 30 [0x00, 0, 0], .sender), (rawFrame 0 1 30 [5], .sender),
      (rawFrame 0 0 30 [3, 4], .sender), (rawFrame 0 0 29 [8, 4], .zoneField), (rawFrame 0 2 31 [0x11, 8, 0], .zoneField),
      (rawFrame 0 2 31 [0x40, 0, 0], .codeField), (rawFrame 0 2 31 [0x04, 0, 0], .codeField),
      (rawFrame 1 3 1 [0, 0, 0, 0, 7], .codeField), (rawFrame 2 6 1 [0, 0, 0, 0, 3], .codeField),
      (rawFrame 2 4 1 [0x10, 0, 4, 0, 0, 6, 0, 0], .length),
      (rawFrame 2 4 1 [0x00, 0, 4, 0, 0, 6, 0, 0, 0], .length)].all
        (fun x => decide (x.1.command 1 9 = .frameDiscarded 1 x.2)) = true := by decide +kernel

def inPowerOn : State := { State.reset with boot := { State.reset.boot with station := .inReset .powerOn } }

def inPinReset : State :=
  { State.reset with boot := { State.reset.boot with station := .inReset .resetPin }, retention := State.reset.retention.set 0 (some 300) }

theorem witness_ChipResets :
    inPowerOn.boot.station = .inReset .powerOn ∧ still.boot.station ≠ .inReset .powerOn ∧
      inPinReset.boot.station = .inReset .resetPin := by decide +kernel

/-- R62: the retained position outlives a RESET_PIN reset and not a POWER_ON one. -/
theorem test_reset_retention :
    (after (.chipResetEnd 1000) inPinReset).retention[0] = some 300 ∧
      (after (.chipResetEnd 1000) inPinReset).line.cause = some .resetPin ∧
      (after (.powerOnReset 0) inPinReset).retention[0] = none := by decide +kernel

theorem witness_ReadAbandoned :
    State.reset.boot.station = .loading ∧ State.reset.boot.loader = .loading ∧ State.reset.boot.attempt = 1 ∧
      State.reset.boot.attemptAt + 200000 ≤ State.reset.now + 200000 ∧
      (after (.readAttemptTimeout 200000) State.reset).boot.station = .loading ∧
      (after (.readAttemptTimeout 200000) State.reset).boot.loader = .loading ∧
      (after (.readAttemptTimeout 200000) State.reset).boot.attempt = 2 := by decide +kernel

/-- R170: 199,999 µs are not 200 ms. -/
theorem test_attempt_not_due : (after (.readAttemptTimeout 199999) State.reset).boot.attempt = 1 := by decide +kernel

/-- The 200 bytes of an image with their check word (R170). -/
def summed (body : List Byte) : List Byte :=
  let sum := (body.map BitVec.toNat).sum
  body ++ [BitVec.ofNat 8 (sum / 256), BitVec.ofNat 8 sum]

/-- An image of node 3 with one vent on C0 and its check word (R181). -/
def soundBytes : List Byte :=
  summed <|
    [0xA7, 0xD2, 3, 1, 0x90, 4, 1, 0x90, 30, 60, 0, 80, 0, 60, 0, 150, 0, 120, 0, 60, 1, 0x2C] ++ List.replicate 16 0 ++
      [0xA0, 0, 1, 3, 8, 0xFF, 0xFF, 0, 200, 160, 1, 0xC2, 1, 0x7C, 20, 40, 60, 0] ++ List.replicate 126 0 ++
      [1, 3, 2, 6, 0, 0, 0, 0, 0, 0, 11, 0] ++ [0, 1, 2, 0xEE, 0, 15]

/-- The image with some bytes changed, its check word made right again. -/
def withBytes (l : List (Nat × Byte)) : List Byte :=
  summed <| l.foldl (fun b x => b.set x.1 x.2) (soundBytes.take 200)

/-- R171: the magic, the check word, the node, a loop on T4 and a vane on T5, a channel 8, a tandem pair from an odd channel,
a PRIMARY in zone 8, a channel named twice; R172: a home zone 8 of a RESERVE is clamped. -/
theorem test_images_refused :
    imageSound (withBytes [(1, 0xD3)]) = false ∧ imageSound (soundBytes.set 201 0) = false ∧
      imageSound (withBytes [(2, 29)]) = true ∧ imageSound (withBytes [(2, 30)]) = false ∧
      imageSound (withBytes [(190, 1)]) = false ∧ imageSound (withBytes [(192, 9)]) = false ∧
      imageSound (withBytes [(39, 7)]) = true ∧ imageSound (withBytes [(39, 8)]) = false ∧
      imageSound (withBytes [(38, 0xE0), (39, 6)]) = true ∧ imageSound (withBytes [(38, 0xE0), (39, 5)]) = false ∧
      imageSound (withBytes [(41, 8)]) = false ∧ imageSound (withBytes [(40, 2), (41, 8)]) = true ∧
      (readImage (withBytes [(40, 2), (41, 8)])).vents[0].home = 7 ∧
      imageSound (withBytes [(38, 0xE0), (56, 0x80), (57, 2)]) = true ∧
      imageSound (withBytes [(38, 0xE0), (56, 0x80), (57, 1)]) = false := by decide +kernel

/-- Section 7.1's table of terminal functions, codes 0 to 14, with the parameter 3. -/
theorem test_terminal_codes :
    (List.range 15).map (fun c => (readImage (withBytes [(182, BitVec.ofNat 8 c), (183, 3)])).terms[0]) =
      [.unused, .smokeLoop 3, .callPoint 3, .keyOpen, .keyClose, .manualOpen 3, .manualClose 3] ++
        [.rainSense, .windPulse, .windVane, .mainsMonitor, .signalOut, .resetButton, .lampFire, .unused] := by
  decide +kernel

theorem witness_ImageTaken :
    State.reset.boot.station = .loading ∧ State.reset.boot.loader = .loading ∧ soundBytes.length = 202 ∧
      imageSound soundBytes = true ∧ (List.replicate 202 (0 : Byte)).length = 202 ∧
      imageSound (List.replicate 202 0) = false := by decide +kernel

/-- R61, R63: a retained position comes back with the intermediate-stop count at 8; a field lies where R181 puts it. -/
theorem test_image_taken :
    let t := after (.imageReadComplete 0 soundBytes) { State.reset with retention := State.reset.retention.set 0 (some 300) }
    t.boot.station = .join ∧ t.chans[0].estimate = some 300 ∧ t.vents[0].stops = 8 ∧ t.image.feedLimit = 400 ∧
      t.image.vents[0].openTime = 450 ∧ t.image.vents[0].facing = none ∧ t.image.terms[1] = .callPoint 6 ∧
      t.image.terms[5] = .signalOut ∧ t.image.anemometer = 750 ∧ t.image.stormHold = 300 ∧ t.terms[0].loop = .watch := by
  decide +kernel

theorem witness_JoinEnds :
    (joining windSite).boot.station = .join ∧ (joining windSite).boot.joinEnds = some 1000000 ∧
      1000000 ≤ (joining windSite).now + 1000000 ∧ (joining windSite).line.state = .ok ∧
      (joining windSite).line.waiting = [] ∧ (joining windSite).line.tx = none := by decide +kernel

/-- R7: with seven zones in the set, the ALARM frames of the lowest six find a place. -/
theorem test_join_alarms :
    let s := { joining windSite with fire := { zones := 0xFE, epoch := 9, known := true } }
    let t := after (.joinTimerExpiry 1000000) s
    ((t.line.waiting.map Queued.frame).filter fun f => f.kind == 0) =
        [.alarm 1 9, .alarm 2 9, .alarm 3 9, .alarm 4 9, .alarm 5 9, .alarm 6 9] ∧
      t.line.heartbeat = some 2000000 := by decide +kernel

/-- JOIN with the zones given in alarm, the lowest balanced, at epoch 9. -/
def joinAlarms (zones : ZoneSet) : State :=
  { joining windSite with
    fire := { zones := zones, epoch := 9, known := true }, area := { Area.reset with balance := lowest zones } }

/-- The clauses on STATUS and WEATHER at the ends of their ranges, 2 and 3, 4 and 5 alarmed zones; what waits, by kind code:
with 2 everything, with 3 and 4 the STATUS by the order of log entry 8, with 5 no STATUS. -/
theorem witness_JoinEnds_alarms :
    let waits := fun z : ZoneSet => (after (.joinTimerExpiry 1000000) (joinAlarms z)).line.waiting.map fun q => q.frame.kind
    ([3, 7, 15, 31] : List ZoneSet).all (fun z => decide
        ((joinAlarms z).boot.station = .join ∧ (joinAlarms z).boot.joinEnds = some 1000000 ∧
          (joinAlarms z).line.state = .ok ∧ (joinAlarms z).line.waiting = [] ∧ (joinAlarms z).line.tx = none ∧
          (joinAlarms z).isSource = true)) = true ∧
      ([3, 7, 15, 31] : List ZoneSet).map (fun z => (eight.filter fun y => memberOf y (joinAlarms z).fire.zones).length) =
        [2, 3, 4, 5] ∧
      waits 3 = [0, 0, 3, 4, 5, 6] ∧ waits 7 = [0, 0, 0, 3, 4, 5] ∧ waits 15 = [0, 0, 0, 0, 3, 4] ∧
      waits 31 = [0, 0, 0, 0, 0, 3] := by decide +kernel

/-- R24, R60, R151, R115: at the passage to RUN the vents are UNKNOWN under DEFAULT 0: they wait to close, the first of them
announced; STATUS with the restart cause and the source's WEATHER go out. -/
theorem witness_JoinEnds_evaluated :
    let t := after (.joinTimerExpiry 1000000) (joining windSite)
    (joining windSite).DriveLaw ∧ (joining windSite).ArbiterLaw ∧ (joining windSite).uncallable 1 ∧
      (joining windSite).used 1 = true ∧
      (joining windSite).vents[1].state = .idle ∧ ((joining windSite).tick 1000000).wants 1 = some (.closing, .toEnd) ∧
      (joining windSite).isSource = true ∧ (eight.filter fun z => memberOf z (joining windSite).fire.zones).length = 0 ∧
      t.vents[0].state = .announced ∧ t.vents[1].state = .waitSupply ∧ t.vents[1].joinTime = 1000000 ∧
      t.line.waiting.map (fun q => q.frame.kind) = [3, 4, 6] ∧ t.statusContent.cause = some .powerOn ∧
      t.line.waiting.any (fun q => q.frame == .status t.statusContent) = true := by
  have rests : ∀ c : ChanId, (joining windSite).chans[c].driven = none := by decide +kernel
  refine ⟨⟨by unfold Image.ChannelsApart; decide +kernel, ?_, fun _ => ⟨rests, rfl⟩,
    fun _ h => nomatch h⟩, ?_, .inl rfl, by decide +kernel⟩
  · intro c d h
    rw [rests c] at h
    cases h
  unfold State.ArbiterLaw State.atRestOutsideService State.batteryHolds State.firePatternHolds State.weatherRecordHolds
    State.holdsDemand
  decide +kernel

/-- R126, R130, R133, R134: a loop on T0, a call point closed already on T1, a mains monitor open on T2, a wet comparator on
T3, a key open on T4. -/
theorem test_terminals_start :
    let s := State.reset.withPins #v[false, true, false, true, false, false]
    let t := after (.imageReadComplete 7 (withBytes [(186, 10), (188, 7), (190, 3)])) s
    t.terms[0].loop = .watch ∧ t.terms[1].debounced = false ∧ t.terms[1].debounce = some 50007 ∧
      t.mains = { battery := false, loss := some 2000007, back := none } ∧ t.weather.rainConfirm = some 1000007 ∧
      t.terms[4] = Term.reset := by decide +kernel

/-! ### Frames heard, peers, demands -/

def lostStill : State := still.updLine fun l => { l with state := .lost, latch := true, failures := 2 }

theorem witness_FramesHeard :
    quietBefore (.alarmReceived 5 10 7 3 4) = some 10 ∧ State.reset.active = false ∧ lostStill.active = true ∧
      lostStill.line.state = .lost := by decide +kernel

theorem test_lost_ends :
    (after (.comfortReceived 5 10 0 0 1) lostStill).line.state = .ok ∧
      (after (.comfortReceived 5 9 0 0 1) lostStill).line.state = .lost := by decide +kernel

/-- Station 7, with a record for zone 3 and a weather record of 3 s ago. -/
def neighbour : Peer :=
  { fresh := true, heard := 1000000, zones := 24, epoch := some 4, running := 50, inrush := 30,
    inrushEnds := some 1500000, pending := some .fire, area := some { zone := 3, primary := 240, offer := 300 },
    weather := some { dir := some 90, wind := .windy, rain := false, heard := 1000000 } }

def beside : State := { still with now := 1000000, peers := still.peers.set 7 (some neighbour) }

theorem witness_PeerDrawTaken :
    beside.active = true ∧ (7 : StationNode).val ≠ beside.image.node ∧ beside.peers[(7 : StationNode)] = some neighbour ∧
      beside.peers[(8 : StationNode)] = none := by decide +kernel

theorem test_draw_clamped :
    ((after (.drawReceived 0 20 8 { running := 1201, inrush := 1200, pending := none }) beside).peers[(8 : StationNode)]).map
      (fun p => (p.running, p.inrush, p.inrushEnds)) = some (1200, 1200, some 1400000) := by decide +kernel

/-- An entry that stands, and one that a frame creates. -/
theorem witness_PeerSetTaken :
    beside.active = true ∧ (7 : StationNode).val ≠ beside.image.node ∧
      beside.peers[(7 : StationNode)] = some neighbour ∧ (8 : StationNode).val ≠ beside.image.node ∧
      beside.peers[(8 : StationNode)] = none ∧
      Peer.created (beside.now + 0) =
        { fresh := true, heard := beside.now + 0, zones := 0, epoch := none, running := 0, inrush := 0, inrushEnds := none,
          pending := none, area := none, weather := none } := by decide +kernel

/-- R162: the area record stays while its zone is the first of the set at the epoch held, and goes otherwise. -/
theorem test_area_record_kept :
    let area := fun c : Instr => ((after c beside).peers[(7 : StationNode)]).bind Peer.area
    area (.statusReceived 0 20 7 { quietStatus with zones := 8 }) = neighbour.area ∧
      area (.statusReceived 0 20 7 { quietStatus with zones := 12 }) = none ∧
      area (.statusReceived 0 20 7 { quietStatus with zones := 8, epoch := 5 }) = none ∧
      area (.resetReceived 0 20 (.station 7) 4) = none ∧ area (.alarmReceived 0 20 7 4 4) = neighbour.area ∧
      area (.alarmReceived 0 20 7 2 4) = none ∧ area (.alarmReceived 0 20 7 3 5) = none := by decide +kernel

/-- R159: ALARM and STATUS create the entry they find missing. -/
theorem test_entry_created :
    ((after (.alarmReceived 0 20 8 3 4) beside).peers[(8 : StationNode)]).map (fun p => (p.zones, p.epoch, p.heard)) =
        some (8, some 4, 1000000) ∧
      ((after (.statusReceived 0 20 8 { quietStatus with running := 9 }) beside).peers[(8 : StationNode)]).map
        (fun p => (p.fresh, p.running, p.inrush)) = some (true, 9, 0) := by decide +kernel

theorem witness_PeerRecordsTaken :
    beside.active = true ∧ (7 : StationNode).val ≠ beside.image.node ∧ beside.peers[(7 : StationNode)] = some neighbour ∧
      memberOf 4 neighbour.zones = true ∧ lowest neighbour.zones ≠ some 4 ∧ lowest neighbour.zones = some 3 ∧
      memberOf 5 neighbour.zones = false ∧ (8 : StationNode).val ≠ beside.image.node ∧
      beside.peers[(8 : StationNode)] = none := by decide +kernel

/-- R159, R161: an AREA creates an entry. R116: node 1 stands below the own node 3, itself a source, and node 8 above. -/
theorem test_effective_weather :
    let own := after (.weatherReceived 0 20 8 westStorm) beside
    let low := after (.weatherReceived 0 20 1 westStorm) beside
    ((after (.areaReceived 0 20 8 plainArea) beside).peers[(8 : StationNode)]).bind Peer.area =
        some { zone := plainArea.zone, primary := plainArea.primary, offer := plainArea.offer } ∧
      own.weather.selected = some 3 ∧ own.weather.effWind = .known .calm ∧ own.weather.effRain = westStorm.rain ∧
      low.weather.selected = some 1 ∧ low.weather.effWind = .known westStorm.wind ∧
      low.weather.effDir = (if westStorm.dir < 360 then some westStorm.dir else none) := by decide +kernel

/-- R163: 359 is a direction, 360 is invalid. -/
theorem test_weather_direction :
    let dir := fun d => (((after (.weatherReceived 0 20 7 { westStorm with dir := d }) beside).peers[(7 : StationNode)]).bind
      Peer.weather).bind PeerWeather.dir
    dir 359 = some 359 ∧ dir 360 = none := by decide +kernel

theorem witness_NodeClashSet : still.active = true ∧ (3 : StationNode).val = still.image.node := by decide +kernel

theorem witness_ComfortWrites :
    still.active = true ∧ still.used 0 = true ∧ (still.cfg 0).comfort = true ∧ memberOf (still.cfg 0).home 8 = true ∧
      still.mains.battery = false := by decide +kernel

/-- R31: a target above 1000 and hold times outside 1 to 255 minutes are clamped. -/
theorem test_comfort_clamped :
    ((after (.comfortReceived 0 20 8 1001 0) still).demand[0]).comfort =
        some { target := .pos 1000, origin := .gateway, expiry := some 60000000 } ∧
      ((after (.comfortReceived 0 20 8 1000 255) still).demand[0]).comfort =
        some { target := .pos 1000, origin := .gateway, expiry := some 15300000000 } ∧
      ((after (.comfortReceived 0 20 8 500 1) { still with mains := { still.mains with battery := true } }).demand[0]).comfort =
        none := by decide +kernel

theorem witness_OverrideWrites :
    lockedStill.DriveLaw ∧ lockedStill.active = true ∧ lockedStill.used 1 = true ∧ lockedStill.vents[1].state = .locked ∧
      lockedStill.line.state = .ok ∧ (Scope.zone (lockedStill.cfg 1).home = .zone 4) ∧ still.active = true ∧
      still.used 0 = true ∧ Scope.zone (still.cfg 0).home = .zone 3 ∧
      Scope.vent still.image.node 0 = .vent 3 0 :=
  ⟨witness_LocksHold.1, by decide +kernel⟩

/-- R27: OPEN and CLOSE release the LOCKED V1 in their scope; HOLD, RELEASE and another scope do not. -/
theorem test_override_unlocks :
    (after (.overrideClose 0 20 (.zone 4)) lockedStill).vents[1].fault = .none ∧
      (after (.overrideOpen 0 20 (.vent 3 1)) lockedStill).vents[1].retries = 0 ∧
      (after (.overrideOpen 0 20 (.zone 3)) lockedStill).vents[1].state = .locked ∧
      (after (.overrideHold 0 20 .all) lockedStill).vents[1].retries = 3 ∧
      (after (.overrideRelease 0 20 .all) lockedStill).vents[1].state = .locked := by decide +kernel

theorem witness_FrameDiscardCounted : still.boot.station = .run ∧ still.line.rxErrors ≤ 255 := by decide +kernel

theorem test_discards_saturate :
    (after (.frameDiscarded 0 .length) (still.updLine fun l => { l with rxErrors := 254 })).line.rxErrors = 255 ∧
      (after (.frameDiscarded 0 .length) (still.updLine fun l => { l with rxErrors := 255 })).line.rxErrors = 255 := by
  decide +kernel

theorem witness_DemandExpires :
    driving.active = true ∧
      driving.demand[0].timed .comfort = some { target := .pos 200, origin := .gateway, expiry := some 900000000 } ∧
      900000000 ≤ driving.now + 899000000 := by decide +kernel

/-! ### Terminals -/

def buttons : State := serving keySite

/-- The contact of a terminal closed 50 ms ago. -/
def closing (t : TermId) (s : State) : State := (s.setPin t true).updTerm t fun x => { x with debounce := some 50000 }

/-- The key contacts T1 and T2 and the manual button T3 of the key site, V1 locked, V0 and V1 with records. -/
def keyed : State :=
  (buttons.updVent 1 fun x => { x with state := .locked, fault := .stallLimit, retries := 3 }).updRecords 0 fun r =>
    { r with brigade := some { target := .pos 0, origin := .panel, expiry := none } }

/-- R28: a key opened writes OPEN on the used vents and releases V1; R28: with both contacts asserted the KEY records go
and a PANEL record stays; R30: a press writes 1000 for 30 minutes on V0 of its mask, in NORMAL. -/
theorem test_key_and_button :
    let opened := after (.debounceExpiry 50000 1) (closing 1 keyed)
    let panel := opened.updRecords 0 fun r => { r with brigade := some { target := .hold, origin := .panel, expiry := none } }
    let fault := after (.debounceExpiry 50000 2) (closing 2 { panel with now := 0 })
    opened.demand[0].brigade = some { target := .pos 1000, origin := .key, expiry := none } ∧
      opened.vents[1].state ≠ .locked ∧ opened.vents[1].retries = 0 ∧ opened.demand[3].brigade = none ∧
      fault.demand[0].brigade = some { target := .hold, origin := .panel, expiry := none } ∧
      fault.demand[1].brigade = none ∧
      (after (.debounceExpiry 50000 3) (closing 3 buttons)).demand[0].manual =
        some { target := .pos 1000, origin := .terminal 3, expiry := some 1800050000 } ∧
      (after (.debounceExpiry 50000 3) (closing 3 buttons)).demand[1].manual = none ∧
      (after (.debounceExpiry 50000 3)
        (closing 3 { buttons with mains := { buttons.mains with battery := true } })).demand[0].manual = none := by
  decide +kernel

/-- A site with both manual buttons, T3 opening and T5 closing V0. -/
def twoButtons : State := serving { keySite with terms := keySite.terms.set 5 (.manualClose 1), manualHold := 0 }

/-- R30: while the closing button is asserted the opening one writes 0, and a hold time of 0 gives no expiry. -/
theorem test_buttons_close :
    (after (.debounceExpiry 50000 5) (closing 5 twoButtons)).demand[0].manual =
        some { target := .pos 0, origin := .terminal 5, expiry := none } ∧
      (after (.debounceExpiry 50000 3) (closing 3 (twoButtons.updTerm 5 fun x => { x with debounced := true }))).demand[0].manual
        = some { target := .pos 0, origin := .terminal 3, expiry := none } := by decide +kernel

/-- The key contact and the buttons at their expiry, in NORMAL and in BATTERY, with V1 locked. -/
theorem witness_ContactDebounced_key :
    (closing 1 keyed).active = true ∧ (closing 1 keyed).fn 1 = .keyOpen ∧ (closing 1 keyed).pins[1] = true ∧
      (closing 1 keyed).terms[1].debounce = some 50000 ∧ (closing 1 keyed).used 1 = true ∧
      (closing 1 keyed).vents[1].state = .locked ∧ (closing 2 keyed).fn 2 = .keyClose ∧
      (closing 3 buttons).fn 3 = .manualOpen 1 ∧ (closing 3 buttons).mains.battery = false ∧
      (closing 3 buttons).used 0 = true ∧ ((closing 3 buttons).cfg 0).comfort = true ∧ memberOf 0 (1 : VentSet) = true ∧
      (closing 5 twoButtons).fn 5 = .manualClose 1 ∧ (closing 5 twoButtons).terms[5].debounce = some 50000 := by
  decide +kernel

theorem witness_ContactDebounced :
    buttons.active = true ∧ (buttons.fn 4).isContact = true ∧ buttons.pins[4] ≠ true ∧
      (pressed buttons).terms[4].debounce = some 50000 ∧ 50000 ≤ (pressed buttons).now + 50000 := by decide +kernel

theorem witness_ResetPressApplies :
    (pressed buttons).fn 4 = .resetButton ∧ (pressed buttons).pins[4] = true ∧
      (pressed buttons).terms[4].debounce = some 50000 ∧ (pressed buttons).boot.station = .run ∧
      (pressed buttons).line.state = .ok ∧ (pressed buttons).line.waiting = [] ∧ (pressed buttons).line.tx = none ∧
      (pressed (joining keySite)).boot.station = .join ∧
      (pressed (joining keySite)).terms[4].debounce = some 50000 := by decide +kernel

theorem witness_LoopBandsSorted :
    still.active = true ∧ (still.fn 0).isLoop = true ∧ still.terms[0].loop ≠ .off := by decide +kernel

/-- R129: the bands meet where the table says. -/
theorem test_bands :
    bandOf 0 = .open ∧ bandOf 19 = .open ∧ bandOf 20 = .normal ∧ bandOf 119 = .normal ∧ bandOf 120 = .alarm ∧
      bandOf 400 = .alarm ∧ bandOf 401 = .short ∧ bandOf 600 = .short := by decide

/-- The loop of T0 confirming, faulty with a fault timer, and power-cycled. -/
def loopAt (x : Term) : State := still.updTerm 0 fun _ => x

theorem witness_LoopTimersPass :
    (loopAt { Term.reset with loop := .confirming, confirm := some 2000000 }).fn 0 = .smokeLoop 3 ∧
      (loopAt { Term.reset with loop := .confirming, confirm := some 2000000 }).terms[0].loop = .confirming ∧
      (loopAt { Term.reset with loop := .confirming, confirm := some 2000000 }).terms[0].confirm = some 2000000 ∧
      (loopAt { Term.reset with loop := .watch, faultTimer := some 2000000 }).terms[0].faultTimer = some 2000000 ∧
      (loopAt { Term.reset with cycle := some 5000000 }).terms[0].cycle = some 5000000 ∧
      still.active = true ∧ still.now + 5000000 = 5000000 ∧ memberOf 3 still.fire.zones = false := by decide +kernel

theorem test_confirmation_alarm :
    let t := after (.confirmationExpiry 2000000 0) (loopAt { Term.reset with loop := .confirming, confirm := some 2000000 })
    t.fire.zones = 8 ∧ t.line.waiting.head?.map Queued.frame = some (.alarm 3 4) ∧ t.vents[0].state = .announced := by
  decide +kernel

theorem witness_MainsFollowed :
    still.active = true ∧ still.firstTerm .mainsMonitor = some 3 ∧ still.pins[3] ≠ true ∧
      ({ still with mains := { battery := false, loss := some 2000000, back := none } } : State).mains.loss = some 2000000 ∧
      ({ still with mains := { battery := true, loss := none, back := some 30000000 } } : State).mains.back = some 30000000 ∧
      still.now + 30000000 = 30000000 := by decide +kernel

/-! ### Weather -/

theorem witness_RainFollowed :
    buttons.active = true ∧ buttons.firstTerm .rainSense = some 0 ∧ buttons.pins[0] ≠ true ∧
      (buttons.updWeather fun w => { w with rainConfirm := some 1000000 }).weather.rainConfirm = some 1000000 ∧
      (buttons.updWeather fun w => { w with rainConfirm := some 1000000 }).weather.wetFiltered = false ∧
      (buttons.updWeather fun w => { w with rain := true, dryHold := some 600000000 }).weather.dryHold = some 600000000 := by
  decide +kernel

theorem test_rain_closes :
    let s := buttons.updWeather fun w => { w with rainConfirm := some 1000000 }
    let t := after (.rainConfirmationExpiry 1000000) s
    t.weather.rain = true ∧ t.weather.effRain = true ∧
      t.demand[0].weather = some { target := .pos 0, origin := .weather, expiry := none } := by decide +kernel

/-- One accepted pulse at 1,000,000 µs. -/
def oncePulsed : State := { still with now := 1000000, weather := { still.weather with lastPulse := some 1000000 } }

theorem witness_WindInputsTaken :
    still.active = true ∧ still.firstTerm .windPulse = some 1 ∧ still.weather.lastPulse = none ∧
      oncePulsed.active = true ∧ oncePulsed.weather.lastPulse = some 1000000 ∧ still.firstTerm .windVane = some 2 := by
  decide +kernel

/-- R108: 1,999 µs is bounce, 2,000 µs and 1,999,999 µs end a period. -/
theorem test_pulse_bounds :
    (after (.anemometerPulse 1999 1) oncePulsed).weather = oncePulsed.weather ∧
      (after (.anemometerPulse 2000 1) oncePulsed).weather.history = [2000] ∧
      (after (.anemometerPulse 1999999 1) oncePulsed).weather.history = [1999999] := by decide +kernel

/-- The own wind state `w` at a source whose anemometer, of constant c, closes periods of 100 ms: a speed of c / 10. -/
def blowing (w : WindState) (c : Nat) : State :=
  { oncePulsed with
    image := { windSite with anemometer := c }
    weather := { oncePulsed.weather with wind := w, windHold := some 2000000, history := List.replicate 4 100000 } }

/-- R113, with the thresholds 60, 80, 120, 150 and the holds 60 s and 300 s, on either side of each: the speed is c / 10. -/
theorem test_wind_rises :
    let t := fun (w : WindState) (c : Nat) => (after (.anemometerPulse 100000 1) (blowing w c)).weather
    (t .calm 800).speed = 80 ∧ (t .calm 790).wind = .calm ∧ (t .calm 800).wind = .windy ∧
      (t .calm 800).windHold = some 61100000 ∧ (t .calm 1490).wind = .windy ∧ (t .calm 1500).wind = .storm ∧
      (t .windy 790).windHold = some 2000000 ∧ (t .windy 800).windHold = some 61100000 ∧
      (t .windy 1500).wind = .storm ∧ (t .storm 1490).windHold = some 2000000 ∧
      (t .storm 1500).windHold = some 301100000 ∧ (t .storm 1210).wind = .storm := by decide +kernel

/-- R114: at the evaluation of a pulse and at the calm timeout the state falls one level where its hold is none or over, at
the off thresholds 120 and 60; before the hold is over, and above the threshold, it stays. -/
theorem test_wind_falls :
    let at_ := fun (w : WindState) (c : Nat) (h : Option Micros) => (blowing w c).updWeather fun x => { x with windHold := h }
    let t := fun (w : WindState) (c : Nat) (h : Option Micros) => (after (.anemometerPulse 100000 1) (at_ w c h)).weather
    let u := fun (w : WindState) (h : Option Micros) => (after (.calmTimeout 2000000) (at_ w 0 h)).weather
    (t .storm 1200 none).wind = .windy ∧ (t .storm 1200 (some 1100000)).windHold = some 61100000 ∧
      (t .storm 1200 (some 1100001)).wind = .storm ∧ (t .storm 1210 none).wind = .storm ∧
      (t .windy 600 none).wind = .calm ∧ (t .windy 600 (some 1100000)).windHold = none ∧
      (t .windy 610 none).wind = .windy ∧ (t .windy 600 (some 1100001)).wind = .windy ∧
      (u .storm (some 3000000)).wind = .windy ∧ (u .storm (some 3000000)).windHold = some 63000000 ∧
      (u .windy none).wind = .calm ∧ (u .windy (some 3000001)).wind = .windy := by decide +kernel

/-- Section 6.5's worked row at 400 s: a speed of 110 in STORM, its hold running; with the windy on threshold below it. -/
theorem test_storm_held :
    let t := (after (.anemometerPulse 100000 1) (blowing .storm 1100)).weather
    t.speed = 110 ∧ t.wind = .storm ∧ t.windHold = some 2000000 := by decide +kernel

/-- Section 6.3, worked cases: direction. -/
theorem test_vane_cases :
    (takeVane 700 still).weather.dir = some 261 ∧ (takeVane 1000 still).weather.dir = some 6 ∧
      (takeVane 8 { still with image := { windSite with vaneOffset := 0 } }).weather.dir = some 2 ∧
      (takeVane 7 still).weather.vaneFault = true ∧ (takeVane 1015 still).weather.vaneFault = false ∧
      (takeVane 1016 still).weather.vaneFault = true := by decide +kernel

theorem witness_PulseSpeed :
    oncePulsed.active = true ∧ oncePulsed.firstTerm .windPulse = some 1 ∧ oncePulsed.weather.lastPulse = some 1000000 ∧
      2000 ≤ oncePulsed.now + 62500 - 1000000 ∧ oncePulsed.now + 62500 - 1000000 < 2000000 := by decide +kernel

/-- An own wind state held until 300 s, at a speed. -/
def windAt (w : WindState) (v : Nat) : State :=
  still.updWeather fun x => { x with wind := w, speed := v, windHold := some 300000000 }

theorem witness_WindTimersPass :
    (windAt .storm 120).active = true ∧ 300000000 ≤ (windAt .storm 120).now + 300000000 ∧
      (windAt .storm 120).weather.windHold = some 300000000 ∧
      (windAt .storm 120).weather.speed ≤ (windAt .storm 120).image.stormOff ∧
      (windAt .storm 121).image.stormOff < (windAt .storm 121).weather.speed ∧
      (windAt .windy 60).weather.speed ≤ (windAt .windy 60).image.windyOff ∧
      (windAt .windy 61).image.windyOff < (windAt .windy 61).weather.speed ∧
      ({ still with windward := still.windward.set 0 { candidate := true, flag := false, persist := some 20000000 } } : State).windward[0].persist
        = some 20000000 := by decide +kernel

/-- A neighbour below the own node whose wind blows at `dir`, judged by the facing 90 and α 60 of V0. -/
def judgedAt (w : EffWind) (dir : Option Nat) (x : Windward) : State :=
  { still with
    weather := { still.weather with selected := some 1, effWind := w, effDir := dir }
    windward := still.windward.set 0 x }

/-- Judging that begins, goes on and stays as it is, and fire mode that begins. -/
theorem witness_WindTimersPass_judging :
    still.active = true ∧ (1 : StationNode).val ≠ still.image.node ∧ still.used 0 = true ∧ (still.cfg 0).role = .primary ∧
      (still.cfg 0).facing = some 90 ∧ still.image.alpha = 60 ∧ still.fire.known = true ∧ still.fire.zones = 0 ∧
      still.peers[(5 : StationNode)] = none ∧ still.weather.effWind = .unknown ∧
      (judgedAt (.known .windy) (some 150) Windward.reset).weather.effDir.isSome = true ∧
      still.boot.station = .run ∧ still.isSource = true ∧ still.line.state = .ok ∧ still.line.waiting = [] ∧
      still.line.tx = none := by decide +kernel

/-- R118: 59 degrees off the facing is windward, 60 is not, 69 is for a vent that was. R119: at once as judging begins,
after 20 s as it goes on, at once as fire mode begins. -/
theorem test_windward_judged :
    let gust := fun d => Instr.weatherReceived 0 20 1 { westStorm with dir := d, wind := .windy }
    let begins := fun d => (after (gust d) still).windward[0]
    let goesOn := fun d x => (after (gust d) (judgedAt (.known .windy) (some 200) x)).windward[0]
    begins 149 = { candidate := true, flag := true, persist := none } ∧
      begins 150 = { candidate := false, flag := false, persist := none } ∧
      goesOn 149 Windward.reset = { candidate := true, flag := false, persist := some 20000000 } ∧
      goesOn 159 { candidate := true, flag := false, persist := some 7 } =
        { candidate := true, flag := false, persist := some 7 } ∧
      goesOn 160 { candidate := true, flag := false, persist := some 7 } = Windward.reset ∧
      (after (.alarmReceived 0 20 5 3 4)
        (judgedAt (.known .windy) (some 149) { candidate := true, flag := false, persist := some 7 })).windward[0] =
          { candidate := true, flag := true, persist := none } ∧
      ((after (.windHoldExpiry 300000000) (windAt .storm 120)).line.waiting.map Queued.frame).contains
        (.weather { speed := 120, dir := 65535, wind := .windy, rain := false, vaneFault := false }) = true := by
  decide +kernel

theorem test_hold_ends :
    (after (.windHoldExpiry 300000000) (windAt .storm 120)).weather.wind = .windy ∧
      (after (.windHoldExpiry 300000000) (windAt .storm 121)).weather.wind = .storm ∧
      (after (.windHoldExpiry 300000000) (windAt .windy 60)).weather.wind = .calm ∧
      (after (.windHoldExpiry 300000000) (windAt .windy 61)).weather.wind = .windy := by decide +kernel

/-! ### The vent line -/

theorem witness_HeartbeatSends :
    still.boot.station = .run ∧ still.line.heartbeat = some 2000000 ∧ 2000000 ≤ still.now + 2000000 ∧
      still.line.state = .ok ∧ still.line.waiting = [] ∧ still.line.tx = none ∧ lostStill.boot.station = .run ∧
      lostStill.line.heartbeat = some 2000000 ∧ lostStill.line.state = .lost := by decide +kernel

/-- R147: a recovery attempt is a DRAW of the current content, made after 10 recessive bit times and not after 9. -/
theorem test_recovery_attempt :
    let s := drivingOn.updLine fun l => { l with state := .lost }
    (after (.heartbeatExpiry 1000000 10) s).line.recovery = some { running := 20, inrush := 0, pending := none } ∧
      (after (.heartbeatExpiry 1000000 9) s).line.recovery = none ∧
      (after (.heartbeatExpiry 1000000 10) drivingOn).line.recovery = none := by decide +kernel

/-- R152: the STATUS of a station on battery with a loop fault, a clash, a LOCKED vent, UNKNOWN positions, V0 running and
V2 waiting under WEATHER. -/
theorem test_status_shown :
    let s := { drivingOn with
      mains := { battery := true, loss := none, back := none }
      terms := drivingOn.terms.set 0 { Term.reset with loop := .watch, fault := true }
      vents := (drivingOn.vents.set 1 { Vent.reset with state := .locked, fault := .short }).set 2
        { Vent.reset with state := .waitSupply, cls := .weather, runKind := some .toEnd }
      line := { drivingOn.line with latch := true, clash := true, rxErrors := 9 } }
    (after (.heartbeatExpiry 1000000 20) s).line.waiting.any (fun q => q.frame == .status
      { fireMode := false, battery := true, lineDegraded := true, terminalFault := true, nodeClash := true,
        areaShort := false, posUnknown := true, zones := 0, epoch := 4, running := 20, pending := some .weather,
        locked := 1, rxErrors := 9, cause := some .powerOn }) = true := by decide +kernel

/-- Zone 3 in alarm and balanced. -/
def balanced : State := { burning with area := { Area.reset with balance := some 3 } }

/-- R103, R115: at a heartbeat in fire mode an AREA and, at a source, a WEATHER. -/
theorem witness_HeartbeatSends_frames :
    balanced.boot.station = .run ∧ balanced.line.heartbeat = some 2000000 ∧ balanced.line.state = .ok ∧
      balanced.line.waiting = [] ∧ balanced.line.tx = none ∧ balanced.leadZone = some 3 ∧ balanced.area.balance = some 3 ∧
      balanced.isSource = true ∧
      ((after (.heartbeatExpiry 2000000 20) balanced).line.waiting.map fun q => q.frame.kind) = [4, 5, 6] := by
  decide +kernel

/-- The site with 200 square decimetres required of zone 3, its vents closed, as zone 3 comes into alarm. -/
def requiring : State :=
  let s := serving { windSite with required := Vector.replicate 8 200 }
  after (.alarmReceived 0 20 5 3 4) { s with chans := Vector.replicate 8 { Channel.reset with estimate := some 0 } }

theorem requiring_arbiterLaw : requiring.ArbiterLaw := by
  unfold State.ArbiterLaw State.atRestOutsideService State.batteryHolds State.firePatternHolds State.weatherRecordHolds
    State.holdsDemand
  decide +kernel

/-- R87 to R98: the primary and the reserve have 200 × 160 × 1000 / 256000 = 125 each; the deficit of 75 is taken and V1
called; nothing is open yet. With V0 locked at 500, 62.5 is rounded to 62 and the deficit passes the offer by 13; an UNKNOWN
position counts as 0. -/
theorem witness_HeartbeatSends_figures :
    requiring.AreaLaw ∧ requiring.ArbiterLaw ∧ requiring.DriveLaw ∧ requiring.leadZone = some 3 ∧
      requiring.line.heartbeat = some 2000000 ∧
      let t := (after (.heartbeatExpiry 2000000 20) requiring).area
      let lockedAt := fun p : Position => (after (.heartbeatExpiry 2000000 20)
        ((requiring.updVent 0 fun x => { x with state := .locked }).updChan 0 fun x => { x with estimate := p })).area
      (t.primary, t.offer, t.called, t.achieved, t.take) = (125, 125, 125, 0, 75) ∧ t.calledSet = 2 ∧
        t.sat = false ∧ t.unknown = false ∧ t.short = false ∧
      ((lockedAt (some 500)).primary, (lockedAt (some 500)).achieved, (lockedAt (some 500)).take) = (62, 62, 125) ∧
      (lockedAt (some 500)).short = true ∧ (lockedAt none).unknown = true ∧ (lockedAt none).primary = 0 := by
  refine ⟨⟨by decide +kernel, by decide +kernel, by decide +kernel, ?_⟩, requiring_arbiterLaw,
    driveLaw_of _ (by unfold Image.ChannelsApart; decide +kernel) (by decide +kernel) (by decide +kernel) (by decide +kernel)
      (by decide +kernel), by decide +kernel⟩
  intro v z hv hz
  cases Option.some.inj ((show requiring.area.balance = some 3 by decide +kernel).symm.trans hz)
  revert hv
  revert v
  decide +kernel

/-- The same with 100 required: the primary suffices, V1 is not called and its FIRE record is 0. -/
def sparing : State :=
  let s := serving { windSite with required := Vector.replicate 8 100 }
  after (.alarmReceived 0 20 5 3 4) { s with chans := Vector.replicate 8 { Channel.reset with estimate := some 0 } }

/-- R24, R102: BRIGADE CLOSE over the FIRE record of 0 changes V1's class alone, and its offer is gone in the same event; the
release brings it back. -/
theorem witness_OverrideWrites_figures :
    sparing.AreaLaw ∧ sparing.ArbiterLaw ∧ sparing.DriveLaw ∧ sparing.active = true ∧ sparing.leadZone = some 3 ∧
      sparing.used 1 = true ∧ sparing.effective 1 = (.pos 0, .fire) ∧ sparing.area.offer = 125 ∧
      let t := after (.overrideClose 0 20 (.vent 3 1)) sparing
      t.effective 1 = (.pos 0, .brigade) ∧ t.vents[1].state = sparing.vents[1].state ∧ t.area.offer = 0 ∧
        (after (.overrideRelease 0 20 (.vent 3 1)) t).area.offer = 125 := by
  refine ⟨⟨by decide +kernel, by decide +kernel, by decide +kernel, ?_⟩, ?_,
    driveLaw_of _ (by unfold Image.ChannelsApart; decide +kernel) (by decide +kernel) (by decide +kernel) (by decide +kernel)
      (by decide +kernel), by decide +kernel⟩
  · intro v z hv
    exact absurd hv (by revert v; decide +kernel)
  · unfold State.ArbiterLaw State.atRestOutsideService State.batteryHolds State.firePatternHolds State.weatherRecordHolds
      State.holdsDemand
    decide +kernel

/-- The same as another requirement would find it: with n required of zone 3 at the heartbeat. -/
def requiredAt (n : Nat) : State := { sparing with image := { sparing.image with required := Vector.replicate 8 n } }

/-- R99: the deficit is n − 125. At 125 the take is 0 and calls nothing; at 126 it is 1 and calls V1, whose FIRE record of 1000
reaches the Drive Unit (R101). -/
theorem witness_HeartbeatSends_calls (n : Nat) (hn : n = 125 ∨ n = 126) :
    (requiredAt n).AreaLaw ∧ (requiredAt n).ArbiterLaw ∧ (requiredAt n).DriveLaw ∧ (requiredAt n).boot.station = .run ∧
      (requiredAt n).leadZone = some 3 ∧ (requiredAt n).line.heartbeat = some 2000000 ∧
      let t := after (.heartbeatExpiry 2000000 20) (requiredAt n)
      t.area.take = n - 125 ∧ memberOf 1 (requiredAt n).area.calledSet = false ∧
        (t.area.calledSet, t.vents[1].target) = if n = 125 then (0, .pos 0) else (2, .pos 1000) := by
  rcases hn with rfl | rfl <;>
    refine ⟨⟨by decide +kernel, by decide +kernel, by decide +kernel, fun v z hv => ?_⟩, ?_,
      driveLaw_of _ (by unfold Image.ChannelsApart; decide +kernel) (by decide +kernel) (by decide +kernel) (by decide +kernel)
        (by decide +kernel), by decide +kernel⟩
  all_goals first
    | exact absurd hv (by revert v; decide +kernel)
    | unfold State.ArbiterLaw State.atRestOutsideService State.batteryHolds State.firePatternHolds State.weatherRecordHolds
        State.holdsDemand
      decide +kernel

/-- V0 of rank 1 and V1 of rank 0, both reserves of 125, 100 required, as zone 3 comes into alarm: V1 is called. -/
def pairOfReserves : State :=
  let r := fun c rank : Nat => { spare with chan := Fin.ofNat 8 c, rank := rank }
  let s := serving { windSite with
    required := Vector.replicate 8 100, vents := #v[r 0 1, r 1 0, .unused, .unused, .unused, .unused, .unused, .unused] }
  after (.alarmReceived 0 20 5 3 4) { s with chans := Vector.replicate 8 { Channel.reset with estimate := some 0 } }

/-- R99: BRIGADE CLOSE on the called V1 leaves it in the set, not eligible; V0 is called in its place. -/
theorem witness_OverrideWrites_calls :
    pairOfReserves.AreaLaw ∧ pairOfReserves.ArbiterLaw ∧ pairOfReserves.DriveLaw ∧ pairOfReserves.active = true ∧
      pairOfReserves.leadZone = some 3 ∧ pairOfReserves.used 1 = true ∧ pairOfReserves.area.calledSet = 2 ∧
      let t := after (.overrideClose 0 20 (.vent 3 1)) pairOfReserves
      t.effective 1 ≠ pairOfReserves.effective 1 ∧ t.area.calledSet = 3 ∧ (t.area.offer, t.area.take) = (125, 100) ∧
        t.effective 0 = (.pos 1000, .fire) := by
  refine ⟨⟨by decide +kernel, by decide +kernel, by decide +kernel, ?_⟩, ?_,
    driveLaw_of _ (by unfold Image.ChannelsApart; decide +kernel) (by decide +kernel) (by decide +kernel) (by decide +kernel)
      (by decide +kernel), by decide +kernel⟩
  · intro v z hv hz
    cases Option.some.inj ((show pairOfReserves.area.balance = some 3 by decide +kernel).symm.trans hz)
    revert hv
    revert v
    decide +kernel
  · unfold State.ArbiterLaw State.atRestOutsideService State.batteryHolds State.firePatternHolds State.weatherRecordHolds
      State.holdsDemand
    decide +kernel

/-- Section 1.7, a row each: PRIMARY in and out of an alarmed zone and windward, RESERVE called and not, INLET. -/
theorem test_fire_pattern :
    let s := serving { windSite with required := Vector.replicate 8 200 }
    let fire := fun (z : Zone) (s : State) (v : VentId) =>
      (after (.alarmReceived 0 20 5 z 4) s).demand[v].fire.map Record.target
    let facingWind := still.updWeather fun x => { x with effWind := .known .storm, effDir := some 90 }
    fire 3 s 0 = some (.pos 1000) ∧ fire 3 s 1 = some (.pos 1000) ∧ fire 3 s 2 = some (.pos 1000) ∧
      fire 3 still 1 = some (.pos 0) ∧ fire 5 s 0 = some (.pos 0) ∧ fire 5 s 2 = some (.pos 0) ∧ fire 5 s 3 = none ∧
      fire 3 facingWind 0 = some (.pos 0) := by decide +kernel

/-- An ALARM waits, class 0. -/
def waitingAlarm : State :=
  still.updLine fun l => { l with waiting := [{ frame := .alarm 3 4, stamp := 1, ann := none }] }

theorem witness_FrameStarts :
    waitingAlarm.boot.station = .run ∧ waitingAlarm.line.state = .ok ∧ waitingAlarm.line.sending = false ∧
      waitingAlarm.line.tx = none ∧
      waitingAlarm.line.waiting.head? = some { frame := .alarm 3 4, stamp := 1, ann := none } ∧
      (after (.arbitrationLost 0) (after (.frameStart 0 6) waitingAlarm)).line.tx =
        some { frame := .alarm 3 4, stamp := 1, ann := none } ∧
      (after (.arbitrationLost 0) (after (.frameStart 0 6) waitingAlarm)).line.sending = false := by decide +kernel

/-- R142: 6 bit times for class 0, 10 after an own frame. -/
theorem test_quiet_times :
    (after (.frameStart 0 6) waitingAlarm).line.sending = true ∧
      (after (.frameStart 0 5) waitingAlarm).line.sending = false ∧
      (after (.frameStart 0 10) (waitingAlarm.updLine fun l => { l with ownLast := true })).line.sending = true ∧
      (after (.frameStart 0 9) (waitingAlarm.updLine fun l => { l with ownLast := true })).line.sending = false := by
  decide +kernel

/-- An ALARM on the line with `e` errors after `f` drops in a row. -/
def failing (e f : Nat) : State :=
  still.updLine fun l =>
    { l with tx := some { frame := .alarm 3 4, stamp := 1, ann := none }, sending := true, errors := e, failures := f }

theorem witness_BitErrorsCounted :
    (failing 2 15).boot.station = .run ∧ (failing 2 15).line.state = .ok ∧ (failing 2 15).line.sending = true ∧
      (failing 2 15).line.tx = some { frame := .alarm 3 4, stamp := 1, ann := none } ∧
      (failing 2 15).line.recovery = none ∧ (failing 2 15).line.failures ≤ 16 ∧ (failing 1 0).line.errors < 2 := by
  decide +kernel

/-- An AREA for zone 4 on the line at its third error, a STATUS, a WEATHER and a newer AREA for zone 4 behind it. -/
def behind : State :=
  still.updLine fun l =>
    { l with
      tx := some { frame := .area { plainArea with zone := 4 }, stamp := 1, ann := none }, sending := true, errors := 2
      waiting := [{ frame := .status quietStatus, stamp := 2, ann := none },
        { frame := .weather westStorm, stamp := 3, ann := none },
        { frame := .area { plainArea with zone := 4, offer := 9 }, stamp := 4, ann := none }] }

theorem witness_BitErrorsCounted_behind :
    { behind with event := 4 }.QueueLaw ∧ 1 ≤ { behind with event := 4 }.event ∧ behind.line.failures < 15 ∧
      behind.line.errors = 2 ∧ behind.line.sending = true ∧ behind.line.recovery = none ∧
      ∃ x ∈ behind.line.waiting, x.frame.kind = 5 ∧ x.frame.subject = some 4 :=
  ⟨by unfold State.QueueLaw; decide +kernel, by decide +kernel⟩

/-- R157: the drop leaves the AREA that waited behind its own kind and subject first among its class. -/
theorem test_drop_succession :
    ((after (.bitError 0) { behind with event := 4 }).line.waiting.filter fun q => q.frame.cls == 2).head?.map Queued.frame =
      some (.area { plainArea with zone := 4, offer := 9 }) := by decide +kernel

theorem test_drops :
    (after (.bitError 0) (failing 1 15)).line.errors = 2 ∧ (after (.bitError 0) (failing 2 14)).line.state = .ok ∧
      (after (.bitError 0) (failing 2 15)).line.state = .mute ∧ (after (.bitError 0) (failing 2 15)).line.tx = none := by
  decide +kernel

theorem witness_FrameSentReports :
    (failing 0 0).boot.station = .run ∧ (failing 0 0).line.sending = true ∧
      (failing 0 0).line.tx = some { frame := .alarm 3 4, stamp := 1, ann := none } := by decide +kernel

theorem announcing_driveLaw (p : Nat) (hp : p = 360 ∨ p = 361) : (announcing p).DriveLaw := by
  rcases hp with rfl | rfl
  all_goals
    exact driveLaw_of _ (by unfold Image.ChannelsApart; decide +kernel) (by decide +kernel) (by decide +kernel) rfl
      (by decide +kernel)

/-- R75: the peers' 360 and the vent's own 40 make exactly the feed limit of 400; with 361 they pass it. -/
theorem witness_CommitDecides (p : Nat) (hp : p = 360 ∨ p = 361) :
    (announcing p).DriveLaw ∧ (announcing p).boot.station = .run ∧ (announcing p).line.state = .ok ∧
      (announcing p).uncallable 0 ∧ (announcing p).line.sending = true ∧
      ((announcing p).line.tx.bind Queued.ann) = some 2 ∧ (announcing p).supply.start = some { vent := 0, id := 2 } ∧
      (announcing p).supply.mark = some 2 ∧ ((announcing p).tick 0).wants 0 = some (.opening, .toStop) ∧
      (announcing p).vents[0].permits .opening = true ∧ (announcing p).line.waiting = [] := by
  refine ⟨announcing_driveLaw p hp, rfl, rfl, .inl rfl, ?_⟩
  rcases hp with rfl | rfl <;> decide +kernel

/-- V0 at the position it is to open to, and after a closing run, as its announcing DRAW is sent. -/
def atTarget : State := (announcing 360).updChan 0 fun x => { x with estimate := some 200 }
def reversing : State := (announcing 360).updVent 0 fun x => { x with lastDir := some .closing }

/-- R42, R77: the two starts not taken, with their corrective DRAW. -/
theorem witness_CommitDecides_notTaken :
    (atTarget.tick 0).wants 0 = none ∧ (reversing.tick 0).wants 0 = some (.opening, .toStop) ∧
      reversing.vents[0].permits .opening = false ∧
      (after (.frameSentWithoutError 0) atTarget).vents[0].state = .idle ∧
      (after (.frameSentWithoutError 0) reversing).vents[0].state = .dwell ∧
      (after (.frameSentWithoutError 0) (reversing.updSupply fun x =>
        { x with lastDraw := some { running := 0, inrush := 40, pending := none } })).line.waiting.map Queued.frame =
          [.draw { running := 0, inrush := 0, pending := none }] := by decide +kernel

/-- V0's announcing DRAW on the line in fire mode: the vent is a PRIMARY, so no call reaches it. -/
def announcingFire : State :=
  after (.frameStart 1000 20) (after (.alarmReceived 0 20 5 3 4) still)

/-- The same, with 200 square decimetres required and V1, a reserve not yet called, running closed beside a peer's 350. -/
def announcingBeside : State :=
  { announcingFire with
    image := { windSite with required := Vector.replicate 8 200 }
    vents := announcingFire.vents.set 1
      { Vent.reset with
        state := .runClose, target := .pos 0, cls := .fire, runKind := some .toEnd, lastDir := some .closing }
    chans := announcingFire.chans.set 1 { Channel.reset with driven := some .closing }
    peers := still.peers.set 5 (some { Peer.created 0 with running := 350 }) }

theorem announcingBeside_arbiterLaw : announcingBeside.ArbiterLaw := by
  unfold State.ArbiterLaw State.atRestOutsideService State.batteryHolds State.firePatternHolds State.weatherRecordHolds
    State.holdsDemand
  decide +kernel

/-- R70, R102: 20 and 350 and 40 pass the limit of 400; the call of the same event stops V1, and V0 is announced again. -/
theorem witness_CommitDecides_again :
    announcingBeside.uncallable 0 ∧ announcingBeside.fireMode = true ∧
      400 < announcingBeside.ownRunning + announcingBeside.peerDraw + announcingBeside.startDraw 0 ∧
      (after (.frameSentWithoutError 0) announcingBeside).area.calledSet = 2 ∧
      (after (.frameSentWithoutError 0) announcingBeside).vents[1].state = .dwell ∧
      (after (.frameSentWithoutError 0) announcingBeside).vents[0].state = .announced :=
  ⟨.inr ⟨announcingBeside_arbiterLaw, by decide +kernel⟩, by decide +kernel⟩

theorem witness_CommitDecides_fire :
    announcingFire.uncallable 0 ∧ announcingFire.fireMode = true ∧ announcingFire.line.sending = true ∧
      announcingFire.supply.start.map Start.vent = some 0 ∧
      (after (.frameSentWithoutError 0) announcingFire).vents[0].state = .runOpen := by
  refine ⟨.inr ⟨?_, by decide +kernel⟩, by decide +kernel⟩
  unfold State.ArbiterLaw State.atRestOutsideService State.batteryHolds State.firePatternHolds State.weatherRecordHolds
    State.holdsDemand
  decide +kernel

/-- R83: the announcing DRAW has been sent, the run has begun. -/
def committedNow : State :=
  after (.frameSentWithoutError 0) ((announcing 360).updSupply fun x =>
    { x with lastDraw := some { running := 0, inrush := 40, pending := none } })

/-- R83, R42: a HOLD that meets the completion finds the start not taken: nothing counted, no last direction, a corrective
DRAW. R54: a later HOLD stops a run. HOLD first withdraws the vent. -/
theorem test_hold_meets_completion :
    let t := after (.overrideHold 0 20 .all) committedNow
    let u := after (.overrideHold 1 20 .all) committedNow
    let w := after (.frameSentWithoutError 0) (after (.overrideHold 0 20 .all) (announcing 360))
    committedNow.vents[0].state = .runOpen ∧ t.vents[0].state = .idle ∧ t.vents[0].stops = 0 ∧
      t.vents[0].lastDir = none ∧ t.chans[0].driven = none ∧ t.chans[0].estimate = some 0 ∧ t.retention[0] = some 0 ∧
      t.line.waiting.map Queued.frame = [.draw { running := 0, inrush := 0, pending := none }] ∧
      u.vents[0].state = .idle ∧ u.vents[0].stops = 1 ∧ u.vents[0].lastDir = some .opening ∧
      w.vents[0].state = .idle ∧ w.vents[0].stops = 0 ∧ w.vents[0].lastDir = none := by decide +kernel

/-- With the announcing DRAW in transmission the commit starts C0. -/
theorem witness_StartsAnnounced :
    (announcing 360).DriveLaw ∧ (announcing 360).AnnounceLaw ∧
      (∃ t, exec (.frameSentWithoutError 0) (announcing 360) = .next t) ∧ (announcing 360).line.state = .ok ∧
      (after (.frameSentWithoutError 0) (announcing 360)).line.state = .ok ∧ (announcing 360).chans[0].driven = none ∧
      (after (.frameSentWithoutError 0) (announcing 360)).chans[0].driven ≠ none := by
  refine ⟨announcing_driveLaw _ (.inl rfl), ⟨?_, ?_⟩, ⟨_, rfl⟩, by decide +kernel⟩
  · intro q hq id hid
    have h : q = { frame := .draw { running := 0, inrush := 40, pending := none }, stamp := 1, ann := some 2 } := by
      simpa [Line.frames, announcing, still, serving, joining, State.reset, Line.reset] using hq
    subst h
    cases hid
    refine ⟨by decide +kernel, _, rfl, ?_⟩
    intro x hx _
    cases hx
    decide +kernel
  · intro x hx
    cases hx
    decide +kernel

theorem test_commit_budget :
    (after (.frameSentWithoutError 0) (announcing 360)).vents[0].state = .runOpen ∧
      (after (.frameSentWithoutError 0) (announcing 361)).vents[0].state = .waitSupply ∧
      (after (.frameSentWithoutError 0) (announcing 361)).vents[0].joinTime = 7 := by decide +kernel

theorem witness_LineStatesChange :
    (still.updLine fun l => { l with state := .mute, mute := some 10000000 }).line.mute = some 10000000 ∧
      10000000 ≤ still.now + 10000000 ∧ still.active = true ∧ still.line.state = .ok ∧
      (lostStill.updLine fun l => { l with recovery := some { running := 0, inrush := 0, pending := none } }).line.recovery.isSome
        = true ∧
      (still.updLine fun l => { l with state := .mute, mute := some 10000000 }).QueueLaw ∧
      (lostStill.updLine fun l => { l with recovery := some { running := 0, inrush := 0, pending := none } }).QueueLaw := by
  unfold State.QueueLaw
  decide +kernel

/-- R81, R147: a COMFORT frame after 10 bit times of quiet ends LINE_LOST, and a DRAW goes out; after 9 it does not. -/
theorem witness_LineStatesChange_heard :
    quietBefore (.comfortReceived 0 10 0 0 0) = some 10 ∧ lostStill.boot.station = .run ∧ lostStill.line.state = .lost ∧
      lostStill.QueueLaw ∧ lostStill.fn 4 = .callPoint 6 ∧ lostStill.terms[4].debounced = false ∧
      (after (.comfortReceived 0 10 0 0 0) lostStill).line.waiting.map Queued.frame =
        [.draw { running := 0, inrush := 0, pending := none }] ∧
      (after (.comfortReceived 0 9 0 0 0) lostStill).line.state = .lost := by
  unfold State.QueueLaw
  decide +kernel

/-- R81: the DRAW of the return, with nothing changed since the last one. -/
theorem test_return_draw :
    (after (.muteTimerExpiry 10000000) (still.updLine fun l =>
        { l with state := .mute, mute := some 10000000 })).line.waiting.map Queued.frame =
      [.draw { running := 0, inrush := 0, pending := none }] := by decide +kernel

/-! ### Supply, peers and the Drive Unit -/

theorem witness_InrushEnds :
    driving.DriveLaw ∧ driving.uncallable 0 ∧ driving.boot.station = .run ∧ driving.line.state = .ok ∧
    (0 : ChanId) ∈ driving.channels 0 ∧
      driving.chans[0].driven = some .opening ∧ driving.chans[0].inrush = some 1400000 ∧ 1400000 ≤ driving.now + 400000 ∧
      driving.line.waiting = [] ∧ driving.line.tx = none ∧
      (after (.inrushWindowEnd 400000 0) driving).drawContent ≠ driving.drawContent ∧
      (after (.inrushWindowEnd 400000 0) driving).line.waiting.map Queued.frame =
        [.draw { running := 20, inrush := 0, pending := none }] :=
  ⟨driving_driveLaw, .inl rfl, by decide +kernel⟩

/-- R67, R72: one channel of a start current of 40 in its window, a peer's 50 and 30. R79: 40 of inrush become 20. -/
theorem test_draws :
    let s := { driving with peers := beside.peers }
    let t := after (.inrushWindowEnd 400000 0) s
    s.ownInrush = 40 ∧ s.ownRunning = 0 ∧ s.startDraw 0 = 40 ∧ s.startDraw 2 = 80 ∧ s.runningCount = 1 ∧
      s.fireMode = false ∧ t.ownInrush = 0 ∧ t.ownRunning = 20 ∧ t.runningCount = 1 ∧
      s.peerDraw = neighbour.running + neighbour.inrush := by decide +kernel

theorem witness_PeerTimersPass :
    beside.active = true ∧ beside.peers[(7 : StationNode)] = some neighbour ∧ neighbour.inrushEnds = some 1500000 ∧
      1500000 ≤ beside.now + 500000 ∧ neighbour.fresh = true ∧ neighbour.heard + 5000000 ≤ beside.now + 5000000 ∧
      neighbour.heard + 30000000 ≤ beside.now + 30000000 ∧
      neighbour.weather = some { dir := some 90, wind := .windy, rain := false, heard := 1000000 } := by decide +kernel

/-- V0 and V1 wait, V1 of the higher class, V0 the earlier; the peer draws 50 of L beside its inrush of 30. -/
def queueing (l : LineState) (limit : Nat) (p : Option DemandClass) : State :=
  let v := fun j k => { Vent.reset with state := .waitSupply, target := .pos 1000, cls := k, runKind := some .toEnd, joinTime := j }
  { beside with
    image := { windSite with feedLimit := limit }
    peers := still.peers.set 7 (some { neighbour with pending := p })
    vents := (still.vents.set 0 (v 5 .comfort)).set 1 (v 6 .manual)
    line := { still.line with state := l } }

/-- The head V1 at a limit that just fits and one that does not, under a peer's class, and with the line down. -/
theorem witness_PeerTimersPass_head (l : LineState) (hl : l = .ok ∨ l = .mute ∨ l = .lost) :
    let s := queueing l 90 (some .manual)
    s.DriveLaw ∧ s.uncallable 1 ∧ s.boot.station = .run ∧ s.supply.start = none ∧ s.line.state = l ∧
    s.line.waiting = [] ∧ s.line.tx = none ∧
      s.used 1 = true ∧ s.vents[1].state = .waitSupply ∧ s.startDraw 1 = 40 ∧ s.image.feedLimit = 90 ∧
      (s.channels 1).length ≤ s.image.maxMotors ∧ classRank s.vents[0].cls < classRank s.vents[1].cls ∧
      (s.tick 500000).wants 1 = some (.opening, .toEnd) ∧ s.vents[1].permits .opening = true ∧
      ∀ v : VentId, s.vents[v].state = .waitSupply → v = 0 ∨ v = 1 := by
  have apart : windSite.ChannelsApart := by unfold Image.ChannelsApart; decide +kernel
  have rests : ∀ c : ChanId, still.chans[c].driven = none := by decide +kernel
  have law : (queueing l 90 (some .manual)).DriveLaw :=
    driveLaw_of _ apart (fun c h => nomatch (rests c).symm.trans h) (fun c h => nomatch (rests c).symm.trans h) rfl
      (fun _ h => nomatch h)
  refine ⟨law, .inl rfl, ?_⟩
  rcases hl with rfl | rfl | rfl <;> decide +kernel

/-- R68, R71, R73, R80: V1 is chosen at a limit of 90 and not at 89, nor below a peer's FIRE; with the line down it runs. -/
theorem test_head_checked :
    let t := fun l n p => after (.peerInrushExpiry 500000 7) (queueing l n p)
    (t .ok 90 (some .manual)).vents[1].state = .announced ∧ (t .ok 90 (some .manual)).vents[0].state = .waitSupply ∧
      (t .ok 90 (some .manual)).line.waiting.map Queued.frame =
        [.draw { running := 0, inrush := 40, pending := some .comfort }] ∧
      (t .ok 89 none).vents[1].state = .waitSupply ∧ (t .ok 90 (some .fire)).vents[1].state = .waitSupply ∧
      (t .mute 90 none).vents[1].state = .runOpen ∧ (t .mute 900 none).vents[0].state = .waitSupply := by decide +kernel

theorem witness_ShortLocks :
    driving.DriveLaw ∧ driving.boot.station = .run ∧ (0 : ChanId) ∈ driving.channels 0 ∧
      driving.chans[0].driven = some .opening := ⟨driving_driveLaw, by decide +kernel⟩

/-- Section 3.13: 12,000 mA is a short; the count saturates at 8 (R38). -/
theorem test_short_locks :
    let t := after (.channelCurrentReading 4500000 0 12000) (driving.updVent 0 fun x => { x with stops := 8 })
    t.vents[0].state = .locked ∧ t.vents[0].stops = 8 ∧ t.chans[0].estimate = some 100 ∧
      (after (.channelCurrentReading 4500000 0 11999) driving).vents[0].state = .runOpen := by decide +kernel

/-- R44: 4.5 s of 45 s opening from 0 are 100, of 38 s closing from 900 are 118 (118.4 less the fraction); below 0, above
1000 and from UNKNOWN. -/
theorem test_estimate_left :
    let at_ := fun (d : Dir) (p : Position) (dt : Micros) => (after (.shortDetected dt 0)
      ((driving.updVent 0 fun x => { x with state := d.runState, lastDir := some d }).updChan 0 fun x =>
        { x with driven := some d, startPos := p, estimate := p })).chans[0].estimate
    at_ .opening (some 0) 4500000 = some 100 ∧ at_ .closing (some 900) 4500000 = some 782 ∧
      at_ .closing (some 50) 4500000 = some 0 ∧ at_ .opening (some 950) 4500000 = some 1000 ∧
      at_ .opening none 4500000 = none := by decide +kernel

/-- A stall filter about to expire after `n` stalls. -/
def stalling (n : Nat) : State :=
  (drivingOn.updChan 0 fun x => { x with stallFilter := some 1500000 }).updVent 0 fun x => { x with retries := n }

theorem witness_StallCounts (n : Nat) (hn : n = 2 ∨ n = 3) :
    (stalling n).DriveLaw ∧ (stalling n).ArbiterLaw ∧ (stalling n).boot.station = .run ∧
      (0 : ChanId) ∈ (stalling n).channels 0 ∧ (stalling n).chans[0].driven = some .opening ∧
      (stalling n).chans[0].stallFilter = some 1500000 ∧ 1500000 ≤ (stalling n).now + 500000 ∧
      (stalling n).vents[0].retries = n := by
  unfold State.ArbiterLaw State.atRestOutsideService State.batteryHolds State.firePatternHolds State.weatherRecordHolds
    State.holdsDemand
  rcases hn with rfl | rfl
  all_goals
    refine ⟨driveLaw_of _ (by unfold Image.ChannelsApart; decide +kernel) (by decide +kernel) (by decide +kernel) rfl
      (by decide +kernel), by decide +kernel⟩

/-- R50: the third stall cools down, the fourth locks. -/
theorem test_stalls :
    (after (.stallFilterExpiry 500000 0) (stalling 2)).vents[0].state = .stalled ∧
      (after (.stallFilterExpiry 500000 0) (stalling 3)).vents[0].state = .locked := by decide +kernel

/-- V0's run from `p` toward the open end with no current drawn so far. -/
def currentless (p : Position) : State :=
  driving.updChan 0 fun x => { x with startPos := p, estimate := p, drew := false }

theorem currentless_driveLaw (p : Position) : (currentless p).DriveLaw :=
  driveLaw_of _ (by unfold Image.ChannelsApart; show ∀ v w : VentId, v ≠ w → ∀ c ∈ windSite.vents[v].channels,
      c ∉ windSite.vents[w].channels; decide +kernel)
    (by
      have h : ∀ c : ChanId, c = 0 ∨ (currentless p).chans[c].driven = none := by
        intro c
        match c with
        | 0 => exact .inl rfl
        | 1 | 2 | 3 | 4 | 5 | 6 | 7 => exact .inr rfl
      intro c hc
      rcases h c with rfl | h
      · exact ⟨0, by show (0 : ChanId) ∈ outlet.channels; decide, rfl⟩
      · rw [h] at hc; cases hc)
    (by
      intro c hc
      match c with
      | 0 => cases hc
      | 1 | 2 | 3 | 4 | 5 | 6 | 7 => cases hc)
    rfl (fun v hv => by cases hv)

/-- The three clauses: an end filter, a window verdict at 950 and at an UNKNOWN position, and an open circuit at 949. -/
theorem witness_ChannelAnchors :
    (drivingOn.updChan 0 fun x => { x with endFilter := some 1500000 }).chans[0].endFilter = some 1500000 ∧
      (currentless (some 950)).DriveLaw ∧ (currentless none).DriveLaw ∧ (currentless (some 949)).DriveLaw ∧
      (currentless (some 950)).boot.station = .run ∧ (currentless (some 950)).line.state = .ok ∧
      (0 : ChanId) ∈ (currentless (some 950)).channels 0 ∧ (currentless (some 950)).chans[0].driven = some .opening ∧
      (currentless (some 950)).chans[0].window = some 1300000 ∧ (currentless (some 950)).chans[0].drew = false ∧
      (currentless (some 949)).chans[0].startPos = some 949 ∧ (currentless none).chans[0].startPos = none ∧
      1300000 ≤ (currentless (some 950)).now + 300000 := by
  refine ⟨by decide +kernel, currentless_driveLaw _, currentless_driveLaw _, currentless_driveLaw _, by decide +kernel⟩

/-- V2, the tandem pair C2 and C3, opens from 300 since 1,000,000 µs; C3 has drawn current, C2 has not. -/
def pairOpening : State :=
  let x : Channel :=
    { Channel.reset with
      estimate := some 300, startPos := some 300, driven := some .opening, window := some 1300000 }
  { still with
    now := 1000000
    vents := still.vents.set 2
      { Vent.reset with
        state := .runOpen, target := .pos 1000, cls := .comfort, runKind := some .toEnd, runStart := 1000000,
        lastDir := some .opening }
    chans := (still.chans.set 2 x).set 3 { x with drew := true, reading := 2000 } }

/-- R48, R49: C2's open circuit leaves C3 at its estimate of 300 + 300 / 45 = 306; a window that closes after current was
drawn leaves the reading to the filters. -/
theorem witness_ChannelAnchors_pair :
    pairOpening.DriveLaw ∧ (2 : ChanId) ∈ pairOpening.channels 2 ∧ (3 : ChanId) ∈ pairOpening.channels 2 ∧
      pairOpening.chans[2].drew = false ∧ pairOpening.chans[3].drew = true ∧ pairOpening.chans[3].window = some 1300000 ∧
      (after (.startWindowEnd 300000 2) pairOpening).vents[2].fault = .openCircuit ∧
      (after (.startWindowEnd 300000 2) pairOpening).chans[2].estimate = some 300 ∧
      (after (.startWindowEnd 300000 2) pairOpening).chans[3].estimate = some 306 ∧
      (after (.startWindowEnd 300000 3) pairOpening).chans[3].window = none ∧
      (after (.startWindowEnd 300000 3) (pairOpening.updChan 3 fun x => { x with reading := 49 })).chans[3].endFilter =
        some 1500000 :=
  ⟨driveLaw_of _ (by unfold Image.ChannelsApart; decide +kernel) (by decide +kernel) (by decide +kernel) rfl
    (by decide +kernel), by decide +kernel⟩

theorem test_window_verdicts :
    windowVerdict (some 950) .opening = .anchored ∧ windowVerdict (some 949) .opening = .openCircuit ∧
      windowVerdict (some 50) .closing = .anchored ∧ windowVerdict (some 51) .closing = .openCircuit ∧
      windowVerdict none .opening = .anchored ∧
      (after (.startWindowEnd 300000 0) (currentless (some 950))).chans[0].estimate = some 1000 ∧
      (after (.startWindowEnd 300000 0) (currentless (some 949))).vents[0].state = .locked := by decide +kernel

/-- V0 runs on to its end. -/
def toEnd : State := drivingOn.updVent 0 fun x => { x with runKind := some .toEnd, stopTime := none, target := .pos 1000 }

theorem toEnd_driveLaw : toEnd.DriveLaw :=
  driveLaw_of _ (by unfold Image.ChannelsApart; decide +kernel) (by decide +kernel) (by decide +kernel) rfl
    (by decide +kernel)

theorem witness_RunEnds :
    driving.DriveLaw ∧ toEnd.DriveLaw ∧ driving.boot.station = .run ∧ driving.line.state = .ok ∧
    driving.vents[0].state = .runOpen ∧
      driving.vents[0].stopTime = some 10000000 ∧ 10000000 ≤ driving.now + 9000000 ∧ driving.vents[0].target = .pos 200 ∧
      toEnd.vents[0].state = Dir.opening.runState ∧ toEnd.vents[0].runKind = some .toEnd ∧
      toEnd.vents[0].runStart + ((toEnd.cfg 0).openTime * 150 + 2000) * 1000 ≤ toEnd.now + 69500000 := by
  exact ⟨driving_driveLaw, toEnd_driveLaw, by decide +kernel⟩

/-- V0 runs, stands as the arbiter left it, and no record stands above COMFORT. -/
theorem witness_RunEnds_target :
    driving.ArbiterLaw ∧ driving.used 0 = true ∧ driving.vents[0].state = Dir.opening.runState ∧
      driving.vents[0].target ≠ .hold ∧ driving.vents[0].target ≠ .pos 1000 ∧ driving.mains.battery = false ∧
      (driving.cfg 0).comfort = true ∧ memberOf (driving.cfg 0).home 8 = true ∧ driving.demand[0].brigade = none ∧
      driving.demand[0].fire = none ∧ driving.demand[0].weather = none ∧ driving.demand[0].manual = none ∧
      (driving.tick 4500000).ventPos 0 = some 100 ∧ driving.vents[0].runKind = some .toStop ∧
      driving.vents[0].committed = none ∧ committedNow.vents[0].committed = some none ∧
      committedNow.vents[0].runStart = committedNow.now + 0 ∧ driving.chans[0].driven = some .opening ∧
      driving.chans[0].startPos = some 0 := ⟨driving_arbiterLaw, by decide +kernel⟩

/-- R54 to R56 at a position of 100: HOLD, the two ends, and targets ahead, equal and behind; the stop time of 300 is
ceil(300 × 450 × 100 / 1000) ms from the run start (R45). -/
theorem test_run_meets_target :
    let o := fun i => (after i driving).vents[0]
    let c := fun p => (after (.comfortReceived 4500000 20 8 p 1) driving).vents[0]
    (o (.overrideHold 4500000 20 .all)).state = .idle ∧ (o (.overrideHold 4500000 20 .all)).stops = 1 ∧
      (o (.overrideOpen 4500000 20 .all)).runKind = some .toEnd ∧ (o (.overrideClose 4500000 20 .all)).state = .dwell ∧
      (c 300).stopTime = some 14500000 ∧ (c 300).state = .runOpen ∧ (c 100).state = .idle ∧ (c 100).stops = 1 ∧
      (c 99).state = .dwell ∧ (c 99).stops = 1 := by decide +kernel

/-- V0 runs to its end as COMFORT asked, with n intermediate stops. -/
def toEndAsked (n : Nat) : State :=
  (toEnd.updVent 0 fun x => { x with stops := n }).updRecords 0 fun r =>
    { r with comfort := some { target := .pos 1000, origin := .gateway, expiry := some 900000000 } }

/-- R55, R56: with 8 stops counted an intermediate target makes the run an anchoring one, with 7 a run to a stop. -/
theorem witness_RunEnds_reanchor (n : Nat) (hn : n = 7 ∨ n = 8) :
    (toEndAsked n).ArbiterLaw ∧ (toEndAsked n).vents[0].runKind = some .toEnd ∧ (toEndAsked n).vents[0].stops = n ∧
      (after (.comfortReceived 4500000 20 8 300 1) (toEndAsked n)).vents[0].runKind =
        some (if n = 8 then .anchoring else .toStop) := by
  unfold State.ArbiterLaw State.atRestOutsideService State.batteryHolds State.firePatternHolds State.weatherRecordHolds
    State.holdsDemand
  rcases hn with rfl | rfl <;> decide +kernel

theorem test_run_ends :
    (after (.stopTimeReached 9000000 0) driving).chans[0].estimate = some 200 ∧
      (after (.stopTimeReached 9000000 0) driving).retention[0] = some 200 ∧
      (after (.stopTimeReached 8999999 0) driving).vents[0].state = .runOpen ∧
      (after (.runLimitReached 69500000 0) toEnd).vents[0].fault = .runTimeout ∧
      (after (.runLimitReached 69499999 0) toEnd).vents[0].fault = .none := by decide +kernel

/-- V0 at 600 after an opening run, at rest in a state, wanting a position. -/
def resting (x : VentState) (p : Nat) : State :=
  { still with
    demand := still.demand.set 0
      { Records.reset with comfort := some { target := .pos p, origin := .gateway, expiry := some 900000000 } }
    vents := still.vents.set 0
      { Vent.reset with
        state := x, target := .pos p, cls := .comfort, lastDir := some .opening, retries := 1,
        dwellEnds := if x = .dwell then some 300000 else none, coolEnds := if x = .stalled then some 5000000 else none }
    chans := still.chans.set 0 { Channel.reset with estimate := some 600 } }

/-- Each clause: nothing wanted (600), a run ahead (700), a reversal (500). -/
theorem witness_DwellAndCoolDown (x : VentState) (hx : x = .dwell ∨ x = .stalled) (p : Nat)
    (hp : p = 500 ∨ p = 600 ∨ p = 700) :
    (resting x p).DriveLaw ∧ (resting x p).boot.station = .run ∧ (resting x p).line.state = .ok ∧
      (resting x p).uncallable 0 ∧ (resting x p).used 0 = true ∧ (resting x p).vents[0].state = x ∧
      (x = .dwell → (resting x p).vents[0].dwellEnds = some 300000) ∧
      (x = .stalled → (resting x p).vents[0].coolEnds = some 5000000) := by
  rcases hx with rfl | rfl <;> rcases hp with rfl | rfl | rfl
  all_goals
    refine ⟨driveLaw_of _ (by unfold Image.ChannelsApart; decide +kernel) (by decide +kernel) (by decide +kernel) rfl
      (by decide +kernel), rfl, rfl, .inl rfl, by decide +kernel⟩

/-- R39, each row, with V0 at 600 and its count at 0, then at 8. -/
theorem test_wants :
    let want := fun (stops : Nat) (p : Position) (x : Target) =>
      (((resting .idle 0).updVent 0 fun y => { y with target := x, stops := stops }).updChan 0 fun y =>
        { y with estimate := p }).wants 0
    want 0 (some 600) .hold = none ∧ want 0 (some 600) (.pos 0) = some (.closing, .toEnd) ∧
      want 0 (some 0) (.pos 0) = none ∧ want 0 none (.pos 1000) = some (.opening, .toEnd) ∧
      want 8 (some 1000) (.pos 1000) = none ∧ want 0 (some 600) (.pos 601) = some (.opening, .toStop) ∧
      want 0 (some 600) (.pos 599) = some (.closing, .toStop) ∧ want 0 (some 600) (.pos 600) = none ∧
      want 8 (some 600) (.pos 500) = some (.closing, .anchoring) ∧
      want 8 (some 600) (.pos 501) = some (.opening, .anchoring) ∧
      want 0 none (.pos 999) = some (.opening, .anchoring) := by decide +kernel

theorem test_rest_ends :
    (after (.dwellExpiry 300000 0) (resting .dwell 500)).vents[0].state = .announced ∧
      (after (.dwellExpiry 300000 0) (resting .dwell 600)).vents[0].state = .idle ∧
      (after (.coolDownExpiry 5000000 0) (resting .stalled 500)).vents[0].state = .dwell ∧
      (after (.coolDownExpiry 5000000 0) (resting .stalled 600)).vents[0].state = .idle ∧
      (after (.coolDownExpiry 5000000 0) (resting .stalled 700)).vents[0].state = .announced := by decide +kernel

theorem witness_ReadingFilters :
    driving.DriveLaw ∧ drivingOn.DriveLaw ∧ driving.boot.station = .run ∧ (0 : ChanId) ∈ driving.channels 0 ∧
      driving.chans[0].driven = some .opening ∧ driving.chans[0].window.isSome = true ∧ (0 : ChanId) ∈ drivingOn.channels 0 ∧
      drivingOn.chans[0].driven = some .opening ∧ drivingOn.chans[0].window = none :=
  ⟨driving_driveLaw, drivingOn_driveLaw, by decide +kernel⟩

/-- R48 to R50: idle is below 50 mA, the stall threshold of this vent 6,000 mA. -/
theorem test_filters :
    (after (.channelCurrentReading 0 0 49) drivingOn).chans[0].endFilter = some 1200000 ∧
      (after (.channelCurrentReading 0 0 50) drivingOn).chans[0].endFilter = none ∧
      (after (.channelCurrentReading 0 0 5999) drivingOn).chans[0].stallFilter = none ∧
      (after (.channelCurrentReading 0 0 6000) drivingOn).chans[0].stallFilter = some 1500000 ∧
      (after (.channelCurrentReading 0 0 49) driving).chans[0].drew = false ∧
      (after (.channelCurrentReading 0 0 50) driving).chans[0].drew = true := by decide +kernel

/-! ### The arbiter and the balance -/

/-- Zone 3 in alarm, V1 called. -/
def called : State := { burning with area := { Area.reset with balance := some 3, offer := 125, take := 125, calledSet := 2 } }

theorem witness_CallsRatchet :
    called.AreaLaw ∧ (∃ t, exec (.calmTimeout 0) called = .next t) ∧ isReset (.calmTimeout 0) = false ∧
      (after (.calmTimeout 0) called).leadZone = called.leadZone ∧
      (after (.calmTimeout 0) called).fire.epoch = called.fire.epoch ∧ memberOf 1 called.area.calledSet = true := by
  refine ⟨⟨by decide +kernel, by decide +kernel, by decide +kernel, ?_⟩, ⟨_, rfl⟩, by decide +kernel⟩
  intro v z hv hz
  cases hz
  revert hv
  revert v
  decide +kernel

/-- The site with 100 square decimetres required of zone 3, no primary used, V1 a reserve opening to COMFORT 1000. -/
def reserveOpening : State :=
  let k := { windSite with required := Vector.replicate 8 100, vents := windSite.vents.set 0 .unused }
  { serving k with
    demand := still.demand.set 1
      { Records.reset with comfort := some { target := .pos 1000, origin := .gateway, expiry := some 900000000 } }
    vents := still.vents.set 1
      { Vent.reset with
        state := .runOpen, target := .pos 1000, cls := .comfort, runKind := some .toEnd, lastDir := some .opening }
    chans := still.chans.set 1 { Channel.reset with estimate := some 0, startPos := some 0, driven := some .opening } }

/-- R35, R36: a reserve that the fire calls at once is handed FIRE 1000 and no 0 before it: its opening run goes on, at the
start of the fire and at a newer epoch that calls it again. -/
theorem test_call_reaches_running_reserve :
    let t := after (.alarmReceived 0 20 5 3 4) reserveOpening
    let u := after (.alarmReceived 0 20 5 3 5) t
    t.area.calledSet = 2 ∧ t.vents[1].state = .runOpen ∧ t.vents[1].cls = .fire ∧ t.vents[1].stops = 0 ∧
      u.area.calledSet = 2 ∧ u.vents[1].state = .runOpen ∧ u.vents[1].stops = 0 := by decide +kernel

/-- Two reserves of zone 3, V0 STALLED after a run in direction d under a BRIGADE record, 100 required. -/
def stalledReserve (d : Dir) (p : Nat) (set : VentSet) : State :=
  let r := fun c rank : Nat => { spare with chan := Fin.ofNat 8 c, rank := rank }
  let k := { windSite with
    required := Vector.replicate 8 100
    vents := #v[r 0 0, r 1 1, .unused, .unused, .unused, .unused, .unused, .unused] }
  let s := { serving k with fire := { zones := 8, epoch := 4, known := true } }
  let s := s.withArea { Area.reset with balance := some 3, calledSet := set }
  let s := writePattern (s.updRecords 0 fun x =>
    { x with brigade := some { target := .pos p, origin := .panel, expiry := none } })
  (s.updVent 0 fun x => { x with
    state := .stalled, target := .pos p, cls := .brigade, lastDir := some d, retries := 1, coolEnds := some 5000000 }).updChan 0
      fun x => { x with estimate := some 400 }

/-- R58, R92, R102: the RELEASE leaves the STALLED reserve in DWELL, so the recompute of the event counts it: called before,
it suffices; not called before, it is called by its rank; the other reserve stays uncalled. -/
theorem test_release_returns_reserve :
    let t := after (.overrideRelease 0 20 .all) (stalledReserve .closing 0 1)
    let u := after (.overrideRelease 0 20 .all) (stalledReserve .opening 1000 0)
    t.vents[0].state = .dwell ∧ t.vents[0].target = .pos 1000 ∧ t.area.calledSet = 1 ∧ t.area.short = false ∧
      u.vents[0].state = .dwell ∧ u.vents[0].target = .pos 1000 ∧ u.area.calledSet = 1 := by decide +kernel

theorem witness_HighestClassRules :
    let r : Records :=
      { Records.reset with
        brigade := some { target := .hold, origin := .key, expiry := none },
        fire := some { target := .pos 1000, origin := .firePattern, expiry := none } }
    r.fire.isSome = true ∧ r.effective = (.hold, .brigade) ∧ Records.reset.effective = (.pos 0, .default) := by decide

/-- R99: V1 offers 200 × 160 × 1000 / 256000 = 125 for zone 3; a take of 125 is met by it and one of 0 calls nothing. -/
theorem witness_TakesAndCalls :
    ([⟨3, 420, 0⟩, ⟨7, 0, 300⟩, ⟨12, 260, 180⟩] : List Share).Pairwise (fun a b => a.node ≠ b.node) ∧
      burning.eligible 3 1 = true ∧ burning.callsFor 3 125 = 2 ∧ burning.callsFor 3 126 = 2 ∧
      burning.callsFor 3 0 = 0 ∧ memberOf 1 burning.area.calledSet = false ∧
      (walk 12 300 [⟨3, 420, 0⟩, ⟨7, 0, 250⟩, ⟨12, 260, 180⟩]).1 = 50 ∧
      (({ burning with peers := burning.peers.set 7 (some { neighbour with fresh := true }) } : State).shares 3 9 8) =
        [⟨3, 9, 8⟩, ⟨7, 240, 300⟩] := by decide +kernel

/-- R99: with three reserves of rank 1, 0 and 1, a take just above the first's area calls the first and the lower index of
the two others. -/
theorem test_calls_by_rank :
    let r := fun c rank : Nat => { spare with chan := Fin.ofNat 8 c, rank := rank }
    let k := { windSite with vents := #v[r 0 1, r 1 0, r 2 1, .unused, .unused, .unused, .unused, .unused] }
    let s := { serving k with fire := { zones := 8, epoch := 4, known := true } }
    s.callsFor 3 125 = 2 ∧ s.callsFor 3 126 = 3 ∧ s.callsFor 3 251 = 7 := by decide +kernel

end Sys2Proof.Tests
end

section
/-! SUPPORT. The parts of State that the Drive Unit's operations read and write: one element after an update, the loops over a
vent's channels, and what an operation on one vent leaves alone. -/

namespace Sys2Proof.Machine

/-! ### One element after an update -/

theorem updVent_get (s : State) (v w : VentId) (f : Vent → Vent) :
    (s.updVent v f).vents[w.val] = if w = v then f s.vents[v.val] else s.vents[w.val] := by
  split
  · next h => subst h; exact updVent_same s w f
  · next h => exact updVent_other s h f

theorem updChan_get (s : State) (c e : ChanId) (f : Channel → Channel) :
    (s.updChan c f).chans[e.val] = if e = c then f s.chans[c.val] else s.chans[e.val] := by
  split
  · next h => subst h; exact updChan_same s e f
  · next h => exact updChan_other s h f

theorem updVent_self (s : State) (v : VentId) (f : Vent → Vent) (h : f s.vents[v] = s.vents[v]) : s.updVent v f = s := by
  simp only [State.updVent, h]
  have : s.vents.set v s.vents[v] = s.vents := by simp
  rw [this]; rfl

theorem updChan_self (s : State) (c : ChanId) (f : Channel → Channel) (h : f s.chans[c] = s.chans[c]) : s.updChan c f = s := by
  simp only [State.updChan, h]
  have : s.chans.set c s.chans[c] = s.chans := by simp
  rw [this]; rfl

/-- Two updates of one vent are one. -/
theorem updVent_updVent (s : State) (v : VentId) (f g : Vent → Vent) :
    (s.updVent v f).updVent v g = s.updVent v fun x => g (f x) := by
  simp [State.updVent, State.withVents]

@[simp] theorem updVent_chans (s : State) (v : VentId) f : (s.updVent v f).chans = s.chans := rfl
@[simp] theorem updVent_supply (s : State) (v : VentId) f : (s.updVent v f).supply = s.supply := rfl
@[simp] theorem updChan_vents (s : State) (c : ChanId) f : (s.updChan c f).vents = s.vents := rfl
@[simp] theorem updChan_supply (s : State) (c : ChanId) f : (s.updChan c f).supply = s.supply := rfl
@[simp] theorem endStart_vents (s : State) : (endStart s).vents = s.vents := rfl
@[simp] theorem endStart_chans (s : State) : (endStart s).chans = s.chans := rfl
@[simp] theorem endStart_start (s : State) : (endStart s).supply.start = none := rfl

/-! ### What is neither the Drive Unit's nor the scheduler's -/

/-- The state without the Drive Unit's items and the scheduler's. -/
def State.still (s : State) : State :=
  { s with vents := State.reset.vents, chans := State.reset.chans, supply := Supply.reset }

@[simp] theorem updVent_still (s : State) (v : VentId) f : (s.updVent v f).still = s.still := rfl
@[simp] theorem updChan_still (s : State) (c : ChanId) f : (s.updChan c f).still = s.still := rfl
@[simp] theorem updSupply_still (s : State) f : (s.updSupply f).still = s.still := rfl
@[simp] theorem endStart_still (s : State) : (endStart s).still = s.still := rfl

section
variable {s t : State} (h : t.still = s.still)
include h
theorem now_of_still : t.now = s.now := (congrArg State.now h :)
theorem image_of_still : t.image = s.image := (congrArg State.image h :)
theorem boot_of_still : t.boot = s.boot := (congrArg State.boot h :)
theorem demand_of_still : t.demand = s.demand := (congrArg State.demand h :)
theorem retention_of_still : t.retention = s.retention := (congrArg State.retention h :)
theorem line_of_still : t.line = s.line := (congrArg State.line h :)
theorem area_of_still : t.area = s.area := (congrArg State.area h :)
theorem fire_of_still : t.fire = s.fire := (congrArg State.fire h :)
theorem windward_of_still : t.windward = s.windward := (congrArg State.windward h :)
theorem peers_of_still : t.peers = s.peers := (congrArg State.peers h :)
theorem weather_of_still : t.weather = s.weather := (congrArg State.weather h :)
theorem event_of_still : t.event = s.event := (congrArg State.event h :)
theorem channels_of_still (v : VentId) : t.channels v = s.channels v := by simp [State.channels, State.cfg, image_of_still h]
theorem cfg_of_still (v : VentId) : t.cfg v = s.cfg v := by simp [State.cfg, image_of_still h]
theorem used_of_still (v : VentId) : t.used v = s.used v := by simp [State.used, State.cfg, image_of_still h]
theorem effective_of_still (v : VentId) : t.effective v = s.effective v := by simp [State.effective, demand_of_still h]
theorem inRun_of_still : t.inRun = s.inRun := by simp [State.inRun, boot_of_still h]
theorem lineDown_of_still : t.lineDown = s.lineDown := by simp [State.lineDown, line_of_still h]
end

/-! ### The channels of a vent -/

theorem VentCfg.channels_nodup (k : VentCfg) : k.channels.Nodup := by
  have h : ∀ c : ChanId, c ≠ c + 1 := by decide
  unfold VentCfg.channels
  split_ifs <;> simp [h]

theorem channels_nodup (s : State) (v : VentId) : (s.channels v).Nodup := VentCfg.channels_nodup _

/-- An operation on each channel of a list, that reads of the rest of the state only what no channel update changes. -/
theorem foldl_updChan (f : State → ChanId → State) (g : State → ChanId → Channel → Channel)
    (hf : ∀ s c, f s c = s.updChan c (g s.still c)) (l : List ChanId) (hl : l.Nodup) :
    ∀ s : State, (∀ e : ChanId, (l.foldl f s).chans[e.val] = if e ∈ l then g s.still e s.chans[e.val] else s.chans[e.val]) ∧
      (l.foldl f s).still = s.still ∧ (l.foldl f s).vents = s.vents ∧ (l.foldl f s).supply = s.supply := by
  induction l with
  | nil => exact fun s => ⟨fun e => by simp, rfl, rfl, rfl⟩
  | cons c l ih =>
    intro s
    obtain ⟨hc, hl⟩ := List.nodup_cons.1 hl
    obtain ⟨h1, h2, h3, h4⟩ := ih hl (f s c)
    rw [List.foldl_cons]
    refine ⟨fun e => ?_, by rw [h2, hf]; rfl, by rw [h3, hf]; rfl, by rw [h4, hf]; rfl⟩
    rw [h1, hf, updChan_still, updChan_get]
    by_cases he : e = c
    · subst he; simp [hc]
    · simp [he]

/-- The same for the channels of a vent. -/
theorem forChannels_get (v : VentId) (f : State → ChanId → State) (g : State → ChanId → Channel → Channel)
    (hf : ∀ s c, f s c = s.updChan c (g s.still c)) (s : State) :
    (∀ e : ChanId, (forChannels v f s).chans[e.val] =
      if e ∈ s.channels v then g s.still e s.chans[e.val] else s.chans[e.val]) ∧
      (forChannels v f s).still = s.still ∧ (forChannels v f s).vents = s.vents ∧ (forChannels v f s).supply = s.supply :=
  foldl_updChan f g hf _ (channels_nodup s v) s

/-! ### Starting and stopping the channels of a vent -/

/-- No channel of the vent is driven. -/
def State.undriven (s : State) (v : VentId) : Prop := ∀ c ∈ s.channels v, s.chans[c.val].driven = none

/-- A driven channel as the start of a run at `now` leaves it. -/
def Channel.begun (x : Channel) (d : Dir) (now : Micros) (inrushMs : Nat) : Channel :=
  { x with
    startPos := x.estimate, driven := some d, reading := 0, window := some (now + Config.startWindow), drew := false,
    endFilter := none, stallFilter := none, inrush := some (now + Config.ms inrushMs) }

theorem drive_get (v : VentId) (d : Dir) (s : State) :
    (∀ e : ChanId, (forChannels v (driveChannel d) s).chans[e.val] =
      if e ∈ s.channels v then s.chans[e.val].begun d s.now s.image.inrushMs else s.chans[e.val]) ∧
      (forChannels v (driveChannel d) s).still = s.still ∧ (forChannels v (driveChannel d) s).vents = s.vents ∧
      (forChannels v (driveChannel d) s).supply = s.supply :=
  forChannels_get v _ (fun s _ x => x.begun d s.now s.image.inrushMs) (fun _ _ => rfl) s

theorem stopDriven_all (v : VentId) (p : ChanId → Position) (s : State) :
    (∀ e : ChanId, (stopDriven v p s).chans[e.val] =
      if e ∈ s.channels v then (if s.chans[e.val].driven.isSome then s.chans[e.val].stop (p e) else s.chans[e.val])
      else s.chans[e.val]) ∧
      (stopDriven v p s).still = s.still ∧ (stopDriven v p s).vents = s.vents ∧ (stopDriven v p s).supply = s.supply := by
  refine forChannels_get v _ (fun _ c x => if x.driven.isSome then x.stop (p c) else x) (fun s c => ?_) s
  split
  · next h => simp only [State.updChan]; rw [if_pos h]
  · next h => exact (updChan_self s c _ (if_neg h)).symm

theorem stopDriven_get (v : VentId) (p : ChanId → Position) (s : State) (e : ChanId) :
    (stopDriven v p s).chans[e.val] =
      if e ∈ s.channels v then (if s.chans[e.val].driven.isSome then s.chans[e.val].stop (p e) else s.chans[e.val])
      else s.chans[e.val] := (stopDriven_all v p s).1 e

@[simp] theorem stopDriven_still (v : VentId) (p) (s : State) : (stopDriven v p s).still = s.still := (stopDriven_all v p s).2.1
@[simp] theorem stopDriven_vents (v : VentId) (p) (s : State) : (stopDriven v p s).vents = s.vents := (stopDriven_all v p s).2.2.1
@[simp] theorem stopDriven_supply (v : VentId) (p) (s : State) : (stopDriven v p s).supply = s.supply :=
  (stopDriven_all v p s).2.2.2

theorem stopDriven_undriven (v : VentId) (p : ChanId → Position) (s : State) : (stopDriven v p s).undriven v := by
  intro c hc
  rw [channels_of_still (stopDriven_still v p s)] at hc
  rw [stopDriven_get, if_pos hc]
  split
  · rfl
  · next h => simpa using h

/-- R43: the channels of the vent whose run begins are driven from their estimates, no other channel changes. -/
theorem beginRun_get (v : VentId) (d : Dir) (k : RunKind) (s : State) (e : ChanId) :
    (beginRun v d k s).chans[e.val] =
      if e ∈ s.channels v then s.chans[e.val].begun d s.now s.image.inrushMs else s.chans[e.val] :=
  (drive_get v d _).1 e

@[simp] theorem beginRun_still (v : VentId) (d : Dir) (k : RunKind) (s : State) : (beginRun v d k s).still = s.still :=
  (drive_get v d _).2.1
@[simp] theorem beginRun_supply (v : VentId) (d : Dir) (k : RunKind) (s : State) : (beginRun v d k s).supply = s.supply :=
  (drive_get v d _).2.2.2
theorem beginRun_vents (v : VentId) (d : Dir) (k : RunKind) (s : State) :
    (beginRun v d k s).vents = (s.updVent v fun x => { x with
      state := d.runState, runKind := some k, runStart := s.now, stopTime := s.runStop v d k s.now (s.ventPos v),
      lastDir := some d, committed := none }).vents := (drive_get v d _).2.2.1

@[simp] theorem announce_same (v : VentId) (s : State) :
    (announce v s).vents[v.val] = { s.vents[v.val] with state := .announced } := updVent_same _ v _
@[simp] theorem announce_chans (v : VentId) (s : State) : (announce v s).chans = s.chans := rfl
@[simp] theorem announce_start (v : VentId) (s : State) :
    (announce v s).supply.start = some { vent := v, id := s.supply.nextId } := rfl

/-- R43, R75, R83: a run begins; one that a commit check gave keeps in `c` the direction of the last run before it. -/
def begunRun (v : VentId) (d : Dir) (k : RunKind) (c : Option (Option Dir)) (s : State) : State :=
  (beginRun v d k s).updVent v fun x => { x with committed := c }

theorem begunRun_same (v : VentId) (d : Dir) (k : RunKind) (c : Option (Option Dir)) (s : State) :
    (begunRun v d k c s).vents[v.val] = { s.vents[v.val] with
      state := d.runState, runKind := some k, runStart := s.now, stopTime := s.runStop v d k s.now (s.ventPos v),
      lastDir := some d, committed := c } := by
  simp only [begunRun, updVent_same, beginRun_vents]

theorem begunRun_other {v w : VentId} (h : w ≠ v) (d : Dir) (k : RunKind) (c : Option (Option Dir)) (s : State) :
    (begunRun v d k c s).vents[w.val] = s.vents[w.val] := by
  rw [begunRun, updVent_other _ h, beginRun_vents, updVent_other _ h]

theorem begunRun_get (v : VentId) (d : Dir) (k : RunKind) (c : Option (Option Dir)) (s : State) (e : ChanId) :
    (begunRun v d k c s).chans[e.val] =
      if e ∈ s.channels v then s.chans[e.val].begun d s.now s.image.inrushMs else s.chans[e.val] := beginRun_get v d k s e

@[simp] theorem begunRun_still (v : VentId) (d : Dir) (k : RunKind) (c : Option (Option Dir)) (s : State) :
    (begunRun v d k c s).still = s.still := beginRun_still v d k s
@[simp] theorem begunRun_supply (v : VentId) (d : Dir) (k : RunKind) (c : Option (Option Dir)) (s : State) :
    (begunRun v d k c s).supply = s.supply := beginRun_supply v d k s

theorem beginRun_begun (v : VentId) (d : Dir) (k : RunKind) (s : State) : beginRun v d k s = begunRun v d k none s := by
  refine (updVent_self _ _ _ ?_).symm
  simp only [Fin.getElem_fin, beginRun_vents, updVent_same]

theorem noteCommit_begun (v : VentId) (d : Dir) (k : RunKind) (old : Option Dir) (s : State) :
    noteCommit v old (beginRun v d k s) = begunRun v d k (some old) s := by
  have hr : (beginRun v d k s).vents[v.val].state.running = true := by
    simp only [beginRun_vents, updVent_same]; cases d <;> rfl
  simp only [noteCommit, begunRun, State.updVent, Fin.getElem_fin, hr, if_true]

theorem noteCommit_notBegun {v : VentId} {s : State} (h : s.vents[v.val].state.running = false) (old : Option Dir) :
    noteCommit v old s = s := updVent_self s v _ (by simp only [Fin.getElem_fin, h, Bool.false_eq_true, if_false])

end Sys2Proof.Machine
end

section
/-! SUPPORT. The moves of the Drive Unit: the few ways in which an operation changes the items of one vent, its channels and
the start in progress. Every operation is a sequence of them (`Path`), and each law of the device is proved of the moves. -/

namespace Sys2Proof.Machine

open Relation

/-! ### Moves -/

/-- The part of an event a move is made in: a verdict on a run or the end of a dwell; the rest of the command's own effect; the
FIRE and WEATHER records that follow it; the demands that are handed on; the scheduler's pre-check; the retention memory. -/
inductive Phase where
  | verdict | effect | records | settle | serve | retain

/-- A move of the completion of an event, not of its command. -/
def Phase.completes : Phase → Prop
  | .records | .settle | .serve | .retain => True
  | .verdict | .effect => False

/-- Items of a vent are noted that leave its state and its last direction alone. -/
structure Noted (ph : Phase) (s : State) (v : VentId) (x y : Vent) : Prop where
  state : y.state = x.state
  kept : y.lastDir = x.lastDir ∧ y.runStart = x.runStart ∧ y.committed = x.committed ∧ y.dwellEnds = x.dwellEnds
  target : y.target = x.target ∨ y.target = (s.effective v).1
  stopTime : y.stopTime = none ∨
    (y.stopTime = x.stopTime ∧ (y.runKind = x.runKind ∨ x.runKind ≠ some .toStop)) ∨
    (x.state.running = true ∧ y.runKind = some .toStop ∧ ∀ c ∈ s.channels v, (s.chanPos v c).isSome = true)
  counts : ph.completes → x.state.running = false → y.stops = x.stops ∧ y.retries = x.retries ∧ y.fault = x.fault

/-- The vent may be put to rest: it does not run or its channels have stopped, and it is not the vent of the start in
progress. `lawful` says that the moves are made in states that obey the drive law. -/
structure Free (ph : Phase) (lawful : Prop) (s : State) (v : VentId) : Prop where
  was : lawful → s.vents[v.val].state.running = false ∨ s.undriven v
  start : lawful → ∀ a, s.supply.start = some a → a.vent ≠ v
  notDwell : lawful → s.vents[v.val].state ≠ .dwell
  locked : lawful → s.vents[v.val].state = .locked → ph = .effect

/-- A vent is put to rest or into waiting. -/
structure Rested (ph : Phase) (lawful : Prop) (s : State) (x y : Vent) : Prop where
  state : y.state.running = false ∧ y.state ≠ .announced
  kept : y.lastDir = x.lastDir ∧ y.runStart = x.runStart ∧ y.committed = x.committed ∧ y.target = x.target
  stopTime : y.stopTime = none ∨ (y.stopTime = x.stopTime ∧ (lawful → x.state.running = false))
  dwell : y.state = .dwell → y.dwellEnds = some (s.now + Config.dwell)
  counts : ph.completes → y.stops = x.stops ∧ y.retries = x.retries ∧ y.fault = x.fault
  unstuck : ph.completes → y.state ≠ .locked ∧ y.state ≠ .stalled

/-- R43, R76: a run may begin. -/
structure Begins (ph : Phase) (lawful : Prop) (s : State) (v : VentId) (d : Dir) (k : RunKind) : Prop where
  wants : s.wants v = some (d, k)
  permits : s.vents[v.val].permits d = true
  start : s.supply.start = none
  origin : lawful → s.inRun = true ∧ (ph = .effect ∧ s.vents[v.val].state = .announced ∨
    ph = .serve ∧ s.vents[v.val].state = .waitSupply ∧ s.lineDown = true)

/-- R44, R45, R48: the position at which a driven channel is stopped: where it is, where its run started, or the target. -/
def State.stopsAt (lawful : Prop) (s : State) (v : VentId) (c : ChanId) (p : Position) : Prop :=
  p = s.chanPos v c ∨ p = s.chans[c.val].startPos ∨
    ∃ q, s.vents[v.val].target = .pos q ∧ p = some q ∧ (lawful → s.RunLaw → (s.chanPos v c).isSome = true)

/-- One move of the Drive Unit or of the scheduler for the vent v. -/
inductive Move (ph : Phase) (lawful : Prop) (v : VentId) : State → State → Prop where
  | note (s : State) (f : Vent → Vent) (h : Noted ph s v s.vents[v.val] (f s.vents[v.val])) : Move ph lawful v s (s.updVent v f)
  | rest (s : State) (f : Vent → Vent) (free : Free ph lawful s v) (h : Rested ph lawful s s.vents[v.val] (f s.vents[v.val])) :
      Move ph lawful v s (s.updVent v f)
  | announce (s : State) (hp : ph = .serve) (hs : s.inRun = true) (hw : s.vents[v.val].state = .waitSupply) :
      Move ph lawful v s (announce v s)
  | begin (s : State) (d : Dir) (k : RunKind) (c : Option (Option Dir)) (h : Begins ph lawful s v d k)
      (hc : c = none ∨ ph = .effect ∧ c = some s.vents[v.val].lastDir) : Move ph lawful v s (begunRun v d k c s)
  | clear (s : State) : Move ph lawful v s (endStart s)
  | stop (s : State) (p : ChanId → Position) (running : lawful → s.vents[v.val].state.running = true)
      (h : ∀ c ∈ s.channels v, s.stopsAt lawful v c (p c)) : Move ph lawful v s (stopDriven v p s)
  | withdraw (s : State) (old : Option Dir) (running : s.vents[v.val].state.running = true) (still : s.undriven v)
      (now : s.vents[v.val].runStart = s.now) (committed : s.vents[v.val].committed = some old)
      (hold : s.vents[v.val].target = .hold) (hp : ph = .settle) :
      Move ph lawful v s (toIdle v (s.updVent v fun x => { x with lastDir := old }))
  | tune (s : State) (c : ChanId) (f : Channel → Channel) (hp : ph = .effect) (hc : c ∈ s.channels v)
      (h : (f s.chans[c.val]).estimate = s.chans[c.val].estimate ∧ (f s.chans[c.val]).startPos = s.chans[c.val].startPos ∧
        (f s.chans[c.val]).driven = s.chans[c.val].driven) : Move ph lawful v s (s.updChan c f)
  | anchored (s : State) (c : ChanId) (d : Dir) (hp : ph = .verdict) (hc : c ∈ s.channels v)
      (hd : s.chans[c.val].driven = some d) : Move ph lawful v s (s.updChan c fun x => x.stop (some d.endPos))
  | timeout (s : State) (hp : ph = .verdict) (running : lawful → s.vents[v.val].state.running = true) :
      Move ph lawful v s (runTimeout v s)
  | undwell (s : State) (hp : ph = .verdict) (hd : s.vents[v.val].state = .dwell) :
      Move ph lawful v s (toIdle v (s.updVent v fun x => { x with lastDir := none }))

/-- A sequence of moves for one vent in one part of an event. -/
abbrev Moves (ph : Phase) (lawful : Prop) (v : VentId) : State → State → Prop := ReflTransGen (Move ph lawful v)

variable {ph : Phase} {lawful : Prop} {v : VentId} {s t : State}

/-- A move changes the Drive Unit's items and the scheduler's only. -/
theorem Move.still (h : Move ph lawful v s t) : t.still = s.still := by
  cases h <;> first | rfl | simp [runTimeout, toLocked]

theorem Moves.still (h : Moves ph lawful v s t) : t.still = s.still := by
  induction h with
  | refl => rfl
  | tail _ m ih => exact m.still.trans ih

/-- A move for one vent leaves the other vents and their channels alone. -/
theorem Move.others (h : Move ph lawful v s t) :
    (∀ w : VentId, w ≠ v → t.vents[w.val] = s.vents[w.val]) ∧ ∀ c : ChanId, c ∉ s.channels v → t.chans[c.val] = s.chans[c.val] := by
  have upd : ∀ (u : State) (f : Vent → Vent) (w : VentId), w ≠ v → (u.updVent v f).vents[w.val] = u.vents[w.val] :=
    fun u f w hw => updVent_other u hw f
  cases h with
  | note _ _ => exact ⟨upd s _, fun _ _ => rfl⟩
  | rest _ _ => exact ⟨upd s _, fun _ _ => rfl⟩
  | announce => exact ⟨upd _ _, fun _ _ => rfl⟩
  | begin d k c => exact ⟨fun w hw => begunRun_other hw d k c s, fun e he => by rw [begunRun_get, if_neg he]⟩
  | clear => exact ⟨fun _ _ => rfl, fun _ _ => rfl⟩
  | stop p _ _ => exact ⟨fun w _ => by rw [stopDriven_vents], fun c hc => by rw [stopDriven_get, if_neg hc]⟩
  | withdraw old _ _ _ _ _ _ => exact ⟨fun w hw => by simp only [toIdle, upd _ _ w hw], fun _ _ => rfl⟩
  | tune c f hp hc h => exact ⟨fun _ _ => rfl, fun e he => updChan_other s (fun k => he (by rwa [k])) f⟩
  | anchored c d hp hc hd => exact ⟨fun _ _ => rfl, fun e he => updChan_other s (fun k => he (by rwa [k])) _⟩
  | timeout hp hr =>
    exact ⟨fun w hw => by simp only [runTimeout, toLocked, upd _ _ w hw, stopDriven_vents],
      fun c hc => by simp only [runTimeout, toLocked, updVent_chans, stopDriven_get, if_neg hc]⟩
  | undwell hp hd => exact ⟨fun w hw => by simp only [toIdle, upd _ _ w hw], fun _ _ => rfl⟩

/-! ### The rest states as moves (R40, R41, R57) -/

theorem Free.of_idle (hs : s.vents[v.val].state = .idle) (h : lawful → ∀ a, s.supply.start = some a → a.vent ≠ v) :
    Free ph lawful s v :=
  ⟨fun _ => .inl (by rw [hs]; rfl), h, fun _ => by rw [hs]; decide, fun _ k => by rw [hs] at k; cases k⟩

theorem toIdle_move (h : Free ph lawful s v) : Move ph lawful v s (toIdle v s) :=
  .rest s _ h ⟨⟨rfl, nofun⟩, ⟨rfl, rfl, rfl, rfl⟩, .inl rfl, nofun, fun _ => ⟨rfl, rfl, rfl⟩, fun _ => ⟨nofun, nofun⟩⟩

theorem toWait_move (h : Free ph lawful s v) (k : RunKind) : Move ph lawful v s (toWait v k s) :=
  .rest s _ h ⟨⟨rfl, nofun⟩, ⟨rfl, rfl, rfl, rfl⟩, .inl rfl, nofun, fun _ => ⟨rfl, rfl, rfl⟩, fun _ => ⟨nofun, nofun⟩⟩

theorem toDwell_move (h : Free ph lawful s v) : Move ph lawful v s (toDwell v s) :=
  .rest s _ h ⟨⟨rfl, nofun⟩, ⟨rfl, rfl, rfl, rfl⟩, .inl rfl, fun _ => rfl, fun _ => ⟨rfl, rfl, rfl⟩, fun _ => ⟨nofun, nofun⟩⟩

theorem evaluate_move (h : Free ph lawful s v) : Move ph lawful v s (evaluate v s) := by
  rcases evaluate_cases v s with ⟨-, e⟩ | ⟨d, k, -, ⟨-, e⟩ | ⟨-, e⟩⟩ <;> rw [e]
  · exact toIdle_move h
  · exact toWait_move h k
  · exact toDwell_move h

theorem evaluateWaiting_move (h : Free ph lawful s v) (hr : lawful → s.vents[v.val].state.running = false) :
    Move ph lawful v s (evaluateWaiting v s) := by
  unfold evaluateWaiting
  split
  · exact toIdle_move h
  · split
    · exact .rest s _ h ⟨⟨rfl, nofun⟩, ⟨rfl, rfl, rfl, rfl⟩, .inr ⟨rfl, hr⟩, nofun, fun _ => ⟨rfl, rfl, rfl⟩, fun _ => ⟨nofun, nofun⟩⟩
    · exact toDwell_move h

/-! ### Runs as moves (R44 to R52) -/

theorem running_runState (d : Dir) : d.runState.running = true := by cases d <;> rfl

theorem countStop_move (h : ¬ ph.completes ∨ s.vents[v.val].state.running = true) : Move ph lawful v s (countStop v s) :=
  .note s _ ⟨rfl, ⟨rfl, rfl, rfl, rfl⟩, .inl rfl, .inr (.inl ⟨rfl, .inl rfl⟩), fun h1 h2 => by
    rcases h with h | h
    · exact absurd h1 h
    · rw [h] at h2; cases h2⟩

theorem stopInPlace_move (hr : lawful → s.vents[v.val].state.running = true) : Move ph lawful v s (stopInPlace v s) :=
  .stop s _ hr fun _ _ => .inl rfl

@[simp] theorem stopInPlace_vents (v : VentId) (s : State) : (stopInPlace v s).vents = s.vents := stopDriven_vents v _ s
@[simp] theorem stopInPlace_supply (v : VentId) (s : State) : (stopInPlace v s).supply = s.supply := stopDriven_supply v _ s
@[simp] theorem stopInPlace_still (v : VentId) (s : State) : (stopInPlace v s).still = s.still := stopDriven_still v _ s
@[simp] theorem countStop_chans (v : VentId) (s : State) : (countStop v s).chans = s.chans := rfl
@[simp] theorem countStop_supply (v : VentId) (s : State) : (countStop v s).supply = s.supply := rfl
@[simp] theorem countStop_still (v : VentId) (s : State) : (countStop v s).still = s.still := rfl

theorem undriven_of {s t : State} (hc : t.chans = s.chans) (hi : t.still = s.still) (h : s.undriven v) : t.undriven v :=
  fun c m => by rw [hc]; exact h c (by rwa [channels_of_still hi] at m)

theorem countStop_get (v w : VentId) (s : State) :
    (countStop v s).vents[w.val] =
      if w = v then { s.vents[v.val] with stops := saturate Config.stopLimit s.vents[v.val].stops } else s.vents[w.val] :=
  updVent_get s v w _

/-- A running vent whose channels have stopped may be put to rest. -/
theorem Free.stopped {s u : State} (p : ChanId → Position) (hu : u.chans = (stopDriven v p s).chans)
    (hi : u.still = s.still) (hp : u.supply = s.supply) (hv : u.vents[v.val].state = s.vents[v.val].state)
    (hr : s.vents[v.val].state.running = true) (h : lawful → ∀ a, s.supply.start = some a → a.vent ≠ v) :
    Free ph lawful u v := by
  refine ⟨fun _ => .inr ?_, by rwa [hp], fun _ k => ?_, fun _ k => ?_⟩
  · exact undriven_of hu (hi.trans (stopDriven_still v p s).symm) (stopDriven_undriven v p s)
  all_goals rw [hv] at k; rw [k] at hr; cases hr

end Sys2Proof.Machine
end

section
/-! SUPPORT. What a vent wants depends on (R39): its items, its channels and the time; and the operations of the Drive Unit and
of the scheduler as sequences of moves. -/

namespace Sys2Proof.Machine

open Relation

/-! ### What a vent's position and its wants are read from (R37, R39, R44) -/

/-- The two states show the vent the same channels, and its items agree but for its state and what goes with it. -/
structure SameView (v : VentId) (s t : State) : Prop where
  now : t.now = s.now
  image : t.image = s.image
  chans : ∀ c ∈ s.channels v, t.chans[c.val] = s.chans[c.val]
  items : t.vents[v.val].target = s.vents[v.val].target ∧ t.vents[v.val].cls = s.vents[v.val].cls ∧
    t.vents[v.val].stops = s.vents[v.val].stops ∧ t.vents[v.val].runStart = s.vents[v.val].runStart

namespace SameView
variable {v : VentId} {s t : State} (h : SameView v s t)
include h

theorem cfg (w : VentId) : t.cfg w = s.cfg w := by rw [State.cfg, h.image]; rfl
theorem channels (w : VentId) : t.channels w = s.channels w := by rw [State.channels, h.cfg]; rfl

theorem chanPos {c : ChanId} (hc : c ∈ s.channels v) : t.chanPos v c = s.chanPos v c := by
  have e := h.chans c hc
  simp only [State.chanPos, Fin.getElem_fin, e, h.cfg, h.now, h.items.2.2.2]

theorem ventPos : t.ventPos v = s.ventPos v := by
  have hp := fun c => h.chanPos (c := c)
  unfold State.ventPos
  rw [h.channels]
  rcases e : s.channels v with _ | ⟨c, _ | ⟨d, l⟩⟩
  · rfl
  · rw [e] at hp; simp [hp]
  · rw [e] at hp; simp [hp]

theorem allKnown : t.allKnown v = s.allKnown v := by
  unfold State.allKnown
  rw [h.channels, Bool.eq_iff_iff, List.all_eq_true, List.all_eq_true]
  exact forall₂_congr fun c hc => by rw [h.chanPos hc]

theorem agree : t.agree v = s.agree v := by
  have hp := fun c => h.chanPos (c := c)
  unfold State.agree
  rw [h.channels]
  rcases e : s.channels v with _ | ⟨c, _ | ⟨d, l⟩⟩
  · rfl
  · rfl
  · rw [e] at hp; simp [hp]

theorem awayFrom (p : Nat) : t.awayFrom v p = s.awayFrom v p := by
  unfold State.awayFrom
  rw [h.channels, Bool.eq_iff_iff, List.any_eq_true, List.any_eq_true]
  exact exists_congr fun c => and_congr_right fun hc => by rw [h.chanPos hc]

theorem reanchorDue : t.reanchorDue v = s.reanchorDue v := by
  unfold State.reanchorDue
  simp only [Fin.getElem_fin, h.allKnown, h.agree, h.items.2.1, h.items.2.2.1]

theorem wants : t.wants v = s.wants v := by
  unfold State.wants
  simp only [Fin.getElem_fin, h.items.1, h.awayFrom, h.reanchorDue, h.ventPos]

end SameView

/-- Items that a vent's wants do not read may change. -/
theorem SameView.updVent (s : State) (v : VentId) (f : Vent → Vent)
    (h : (f s.vents[v.val]).target = s.vents[v.val].target ∧ (f s.vents[v.val]).cls = s.vents[v.val].cls ∧
      (f s.vents[v.val]).stops = s.vents[v.val].stops ∧ (f s.vents[v.val]).runStart = s.vents[v.val].runStart) :
    SameView v s (s.updVent v f) := ⟨rfl, rfl, fun _ _ => rfl, by rw [updVent_same]; exact h⟩

/-- R40: to be evaluated a vent need not enter IDLE first. -/
theorem evaluate_toIdle (v : VentId) (s : State) : evaluate v (toIdle v s) = evaluate v s := by
  have hw : (toIdle v s).wants v = s.wants v := (SameView.updVent s v _ ⟨rfl, rfl, rfl, rfl⟩).wants
  have hp : ∀ d, (toIdle v s).vents[v.val].permits d = s.vents[v.val].permits d := fun d => by
    simp [toIdle, Vent.permits]
  unfold evaluate
  simp only [hw, Fin.getElem_fin, hp]
  split
  · simp [toIdle, updVent_updVent]
  · split
    · simp [toIdle, toWait, updVent_updVent]; rfl
    · simp [toIdle, toDwell, updVent_updVent]; rfl

/-- R37: a vent with a position has every channel known. -/
theorem known_of_ventPos {s : State} {v : VentId} {q : Nat} (h : s.ventPos v = some q) :
    ∀ c ∈ s.channels v, (s.chanPos v c).isSome = true := by
  have len : (s.channels v).length ≤ 2 := by unfold State.channels VentCfg.channels; split_ifs <;> simp
  unfold State.ventPos at h
  split at h
  · cases h
  · next c e => simp [e, h]
  · next c d l e =>
    split at h
    · next p q hp hq =>
      obtain rfl : l = [] := by
        rw [e] at len; simpa using len
      simp [e, hp, hq]
    · cases h

/-! ### Running vents as moves (R44 to R56) -/

variable {ph : Phase} {lawful : Prop} {v : VentId} {s t : State}

theorem withdrawStart_moves (old : Option Dir) (hr : s.vents[v.val].state.running = true)
    (ht : s.vents[v.val].target = .hold) (hn : s.vents[v.val].runStart = s.now)
    (hc : s.vents[v.val].committed = some old) (hst : lawful → ∀ a, s.supply.start = some a → a.vent ≠ v) :
    Moves .settle lawful v s (withdrawStart v old s) := by
  have m1 := stopInPlace_move (ph := .settle) (lawful := lawful) (v := v) (s := s) fun _ => hr
  have m2 : Move .settle lawful v (stopInPlace v s) (toIdle v ((stopInPlace v s).updVent v fun x => { x with lastDir := old })) :=
    .withdraw _ old (by rwa [stopInPlace_vents]) (stopDriven_undriven v _ s)
      (by rw [stopInPlace_vents, hn, now_of_still (stopInPlace_still v s)]) (by rwa [stopInPlace_vents])
      (by rwa [stopInPlace_vents]) rfl
  have m3 := evaluate_move (ph := .settle) (lawful := lawful)
    (s := toIdle v ((stopInPlace v s).updVent v fun x => { x with lastDir := old }))
    (Free.of_idle (toIdle_state v _) fun l => by simpa [toIdle] using hst l)
  exact .tail (.tail (.single m1) m2) m3

theorem stopsToIdle_moves (f : Vent → Vent) (p : ChanId → Position) (hr : s.vents[v.val].state.running = true)
    (hp : ∀ c ∈ s.channels v, s.stopsAt lawful v c (p c))
    (hf : ∀ x, f x = { x with stops := (f x).stops, retries := (f x).retries })
    (hst : lawful → ∀ a, s.supply.start = some a → a.vent ≠ v) :
    Moves ph lawful v s (evaluate v (toIdle v ((stopDriven v p s).updVent v f))) := by
  have m1 : Move ph lawful v s (stopDriven v p s) := .stop s p (fun _ => hr) hp
  have hs : (stopDriven v p s).vents[v.val].state.running = true := by rwa [stopDriven_vents]
  have m2 : Move ph lawful v (stopDriven v p s) ((stopDriven v p s).updVent v f) := by
    refine .note _ f ?_
    rw [hf]
    exact ⟨rfl, ⟨rfl, rfl, rfl, rfl⟩, .inl rfl, .inr (.inl ⟨rfl, .inl rfl⟩), fun _ h2 => by rw [hs] at h2; cases h2⟩
  have free : Free ph lawful ((stopDriven v p s).updVent v f) v :=
    .stopped p rfl (stopDriven_still v p s) (stopDriven_supply v p s) (by rw [updVent_same, hf, stopDriven_vents]) hr hst
  have m3 := evaluate_move (ph := ph) (lawful := lawful) (s := toIdle v ((stopDriven v p s).updVent v f))
    (Free.of_idle (toIdle_state v _) fun l => by simpa [toIdle] using hst l)
  exact .tail (.tail (.tail (.single m1) m2) (toIdle_move free)) m3

theorem meetHold_moves (hr : s.vents[v.val].state.running = true) (ht : s.vents[v.val].target = .hold)
    (hst : lawful → ∀ a, s.supply.start = some a → a.vent ≠ v) : Moves .settle lawful v s (meetHold v s) := by
  rcases meetHold_cases v s with ⟨old, hn, hc, e⟩ | ⟨-, e⟩ <;> rw [e]
  · exact withdrawStart_moves old hr ht hn hc hst
  · exact stopsToIdle_moves _ _ hr (fun _ _ => .inl rfl) (fun _ => rfl) hst

theorem stopAt_eq (v : VentId) (p : Nat) (s : State) :
    stopAt v p s = evaluate v (toIdle v ((stopDriven v (fun _ => some p) s).updVent v fun x =>
      { x with stops := saturate Config.stopLimit x.stops, retries := 0 })) := by
  simp only [stopAt, countStop, updVent_updVent]

theorem stopAt_moves (p : Nat) (hr : s.vents[v.val].state.running = true) (ht : s.vents[v.val].target = .pos p)
    (hk : lawful → s.RunLaw → ∀ c ∈ s.channels v, (s.chanPos v c).isSome = true)
    (hst : lawful → ∀ a, s.supply.start = some a → a.vent ≠ v) : Moves ph lawful v s (stopAt v p s) := by
  rw [stopAt_eq]
  exact stopsToIdle_moves _ _ hr (fun c hc => .inr (.inr ⟨p, ht, rfl, fun l r => hk l r c hc⟩)) (fun _ => rfl) hst

theorem stopsToDwell_moves (hr : s.vents[v.val].state.running = true)
    (hst : lawful → ∀ a, s.supply.start = some a → a.vent ≠ v) :
    Moves ph lawful v s (toDwell v (countStop v (stopInPlace v s))) := by
  have m1 := stopInPlace_move (ph := ph) (lawful := lawful) (v := v) (s := s) fun _ => hr
  have m2 := countStop_move (ph := ph) (lawful := lawful) (v := v) (s := stopInPlace v s)
    (.inr (by rwa [stopInPlace_vents]))
  have free : Free ph lawful (countStop v (stopInPlace v s)) v :=
    .stopped (s.chanPos v) rfl (by simp) (by simp) (by simp [countStop]) hr hst
  exact .tail (.tail (.single m1) m2) (toDwell_move free)

theorem retarget_moves (d : Dir) (p : Nat) (hr : s.vents[v.val].state.running = true)
    (ht : s.vents[v.val].target = .pos p) (hst : lawful → ∀ a, s.supply.start = some a → a.vent ≠ v) :
    Moves ph lawful v s (retarget v d p s) := by
  have running : ∀ {P : Prop}, s.vents[v.val].state.running = false → P := fun h => by rw [hr] at h; cases h
  unfold retarget
  split
  · exact .single (.note s _ ⟨rfl, ⟨rfl, rfl, rfl, rfl⟩, .inl rfl, .inl rfl, fun _ => running⟩)
  · next q hq =>
    split
    · exact stopAt_moves p hr ht (fun _ _ => known_of_ventPos hq) hst
    · split
      · exact .single (.note s _ ⟨rfl, ⟨rfl, rfl, rfl, rfl⟩, .inl rfl, .inr (.inr ⟨hr, rfl, known_of_ventPos hq⟩),
          fun _ => running⟩)
      · exact stopsToDwell_moves hr hst

theorem meetTarget_moves (d : Dir) (x : Target) (hr : s.vents[v.val].state.running = true)
    (ht : s.vents[v.val].target = x) (hst : lawful → ∀ a, s.supply.start = some a → a.vent ≠ v) :
    Moves .settle lawful v s (meetTarget v d x s) := by
  have running : ∀ {P : Prop}, s.vents[v.val].state.running = false → P := fun h => by rw [hr] at h; cases h
  unfold meetTarget
  split
  · exact meetHold_moves hr ht hst
  · next p =>
    split
    · split
      · exact .single (.note s _ ⟨rfl, ⟨rfl, rfl, rfl, rfl⟩, .inl rfl, .inl rfl, fun _ => running⟩)
      · exact stopsToDwell_moves hr hst
    · unfold meetIntermediate
      split
      · exact .refl
      · next hk =>
        split
        · exact .single (.note s _ ⟨rfl, ⟨rfl, rfl, rfl, rfl⟩, .inl rfl,
            .inr (.inl ⟨rfl, .inr (by rw [Fin.getElem_fin] at hk; rw [hk]; decide)⟩), fun _ => running⟩)
        · exact retarget_moves d p hr ht hst
      · exact retarget_moves d p hr ht hst
      · exact retarget_moves d p hr ht hst

/-! ### A new effective demand as moves (R40 to R42, R54 to R60) -/

/-- The vent of the start in progress is ANNOUNCED, so a vent in another state is not it. -/
theorem State.DriveLaw.start_ne (h : s.DriveLaw) (hv : s.vents[v.val].state ≠ .announced) :
    ∀ a, s.supply.start = some a → a.vent ≠ v := by
  obtain ⟨-, -, -, hs⟩ := h
  rintro a ha rfl
  exact hv (hs a ha)

theorem handOnVent_moves (h : lawful → s.DriveLaw) : Moves .settle lawful v s (handOnVent v s) := by
  unfold handOnVent takeDemand
  simp only
  have m1 : Move .settle lawful v s (s.updVent v fun x => { x with target := (s.effective v).1, cls := (s.effective v).2 }) :=
    .note s _ ⟨rfl, ⟨rfl, rfl, rfl, rfl⟩, .inr rfl, .inr (.inl ⟨rfl, .inl rfl⟩), fun _ _ => ⟨rfl, rfl, rfl⟩⟩
  have hsup : (s.updVent v fun x => { x with target := (s.effective v).1, cls := (s.effective v).2 }).supply = s.supply := rfl
  have htar : (s.updVent v fun x => { x with target := (s.effective v).1, cls := (s.effective v).2 }).vents[v.val].target =
    (s.effective v).1 := by simp
  have hst : (s.updVent v fun x => { x with target := (s.effective v).1, cls := (s.effective v).2 }).vents[v.val].state =
    s.vents[v.val].state := by simp
  generalize (s.updVent v fun x => { x with target := (s.effective v).1, cls := (s.effective v).2 }) = u at *
  have ne : u.vents[v.val].state ≠ .announced → lawful → ∀ a, u.supply.start = some a → a.vent ≠ v := fun hv l => by
    rw [hsup]; exact (h l).start_ne (hst ▸ hv)
  have free : u.vents[v.val].state = .idle ∨ u.vents[v.val].state = .waitSupply ∨ u.vents[v.val].state = .stalled →
      Free .settle lawful u v := by
    rintro (e | e | e) <;>
      exact ⟨fun _ => .inl (by rw [e]; rfl), ne (by rw [e]; decide), fun _ => by rw [e]; decide,
        fun _ k => by rw [e] at k; cases k⟩
  refine .trans (.single m1) ?_
  split
  · split
    · next e => exact .single (evaluate_move (free (.inl e)))
    · next e => exact .single (evaluateWaiting_move (free (.inr (.inl e))) fun _ => by rw [Fin.getElem_fin] at e; rw [e]; rfl)
    · next e =>
      rw [Fin.getElem_fin] at e
      split
      · refine .tail (.single (.clear u)) (toIdle_move ⟨fun _ => .inl ?_, fun _ a ha => ?_, fun _ => ?_, fun _ k => ?_⟩)
        · rw [endStart_vents, e]; rfl
        · cases ha
        · rw [endStart_vents, e]; decide
        · rw [endStart_vents, e] at k; cases k
      · exact .refl
    · next e =>
      rw [Fin.getElem_fin] at e
      split
      · exact .refl
      · exact meetTarget_moves _ _ (by rw [e]; rfl) htar (ne (by rw [e]; decide))
    · next e =>
      rw [Fin.getElem_fin] at e
      split
      · exact .refl
      · exact meetTarget_moves _ _ (by rw [e]; rfl) htar (ne (by rw [e]; decide))
    · exact .refl
    · exact .refl
    · next e =>
      have fr := free (.inr (.inr e))
      split
      · exact .single (toIdle_move fr)
      · split
        · split
          · exact .refl
          · exact .single (toDwell_move fr)
        · exact .refl
  · exact .refl

/-! ### Starts as moves (R42, R73 to R80) -/

/-- A vent in WAIT_SUPPLY or ANNOUNCED may be put to rest once no start is in progress. -/
theorem Free.of_start (hs : lawful → s.vents[v.val].state = .announced ∨ s.vents[v.val].state = .waitSupply)
    (hn : s.supply.start = none) : Free ph lawful s v := by
  refine ⟨fun l => .inl ?_, fun _ a ha => ?_, fun l => ?_, fun l k => ?_⟩
  · rcases hs l with e | e <;> rw [e] <;> rfl
  · rw [hn] at ha; cases ha
  · rcases hs l with e | e <;> rw [e] <;> decide
  · rcases hs l with e | e <;> rw [e] at k <;> cases k

theorem giveStart_moves (h : lawful → s.inRun = true ∧ (ph = .effect ∧ s.vents[v.val].state = .announced ∨
    ph = .serve ∧ s.vents[v.val].state = .waitSupply ∧ s.lineDown = true)) : Moves ph lawful v s (giveStart v s) := by
  have free : Free ph lawful (endStart s) v :=
    .of_start (fun l => by rcases (h l).2 with ⟨-, e⟩ | ⟨-, e, -⟩ <;> simp [e]) rfl
  refine .head (.clear s) (.single ?_)
  rcases giveStart_cases v s with ⟨-, e⟩ | ⟨d, k, hw, ⟨hp, e⟩ | ⟨-, e⟩⟩ <;> rw [e]
  · exact toIdle_move free
  · rw [beginRun_begun]; exact .begin _ d k none ⟨hw, hp, rfl, h⟩ (.inl rfl)
  · exact toDwell_move free

theorem returnStart_moves (h : lawful → s.vents[v.val].state = .announced) : Moves ph lawful v s (returnStart v s) := by
  have free : Free ph lawful (endStart s) v := .of_start (fun l => .inl (h l)) rfl
  have m1 : Move ph lawful v (endStart s) ((endStart s).updVent v fun x => { x with state := .waitSupply }) :=
    .rest _ _ free ⟨⟨rfl, nofun⟩, ⟨rfl, rfl, rfl, rfl⟩, .inr ⟨rfl, fun l => by rw [endStart_vents, h l]; rfl⟩, nofun,
      fun _ => ⟨rfl, rfl, rfl⟩, fun _ => ⟨nofun, nofun⟩⟩
  have m2 := evaluateWaiting_move (ph := ph) (lawful := lawful) (v := v)
    (s := (endStart s).updVent v fun x => { x with state := .waitSupply })
    (.of_start (fun _ => .inr (by simp)) rfl) fun _ => by simp; rfl
  exact .tail (.tail (.single (.clear s)) m1) m2

/-- R75, R83: what the commit check makes of the start in progress. -/
theorem commit_moves (h : lawful → s.inRun = true ∧ s.vents[v.val].state = .announced) :
    Moves .effect lawful v s (commit v s) := by
  rcases commit_cases v s with ⟨-, e⟩ | ⟨-, e⟩ <;> rw [e]
  · have given := giveStart_moves (ph := .effect) (lawful := lawful) (v := v) fun l => ⟨(h l).1, .inl ⟨rfl, (h l).2⟩⟩
    rcases giveStart_cases v s with ⟨-, g⟩ | ⟨d, k, hw, ⟨hp, g⟩ | ⟨-, g⟩⟩ <;> rw [g] at given ⊢
    · rwa [noteCommit_notBegun (by rw [toIdle_state]; rfl)]
    · rw [noteCommit_begun]
      exact .tail (.single (.clear s)) (.begin _ d k _ ⟨hw, hp, rfl, fun l => ⟨(h l).1, .inl ⟨rfl, (h l).2⟩⟩⟩ (.inr ⟨rfl, rfl⟩))
    · rwa [noteCommit_notBegun (by rw [toDwell_state]; rfl)]
  · exact returnStart_moves fun l => (h l).2

/-! ### Verdicts as moves (R46, R48 to R53, R57) -/

/-- A channel driven while the drive law holds: its vent runs in the direction it is driven. -/
theorem State.DriveLaw.runs (h : s.DriveLaw) {c : ChanId} {d : Dir} (hc : c ∈ s.channels v)
    (hd : s.chans[c.val].driven = some d) : s.vents[v.val].state = d.runState := by
  obtain ⟨apart, driven, -, -⟩ := h
  obtain ⟨w, hw, e⟩ := driven c d hd
  by_cases k : v = w
  · subst k; exact e
  · exact absurd hw (apart v w k c hc)

/-- A vent that does not run drives nothing. -/
theorem State.DriveLaw.undriven (h : s.DriveLaw) (hv : s.vents[v.val].state.running = false) : s.undriven v := by
  intro c hc
  rcases e : s.chans[c.val].driven with _ | d
  · rfl
  · rw [h.runs hc e, running_runState] at hv; cases hv

theorem undriven_of_anyDriven (h : s.anyDriven v = false) : s.undriven v := by
  intro c hc
  have := List.any_eq_false.1 h c hc
  simpa using this

/-- R46: after a channel is anchored the rest is a matter of the vent's own effect. -/
theorem anchorRest_moves (hr : lawful → s.vents[v.val].state.running = true) (hu : s.undriven v)
    (hst : lawful → ∀ a, s.supply.start = some a → a.vent ≠ v) :
    Moves .effect lawful v s (evaluate v (toIdle v (s.updVent v fun x => { x with stops := 0, retries := 0 }))) := by
  have m1 : Move .effect lawful v s (s.updVent v fun x => { x with stops := 0, retries := 0 }) :=
    .note s _ ⟨rfl, ⟨rfl, rfl, rfl, rfl⟩, .inl rfl, .inr (.inl ⟨rfl, .inl rfl⟩), fun k => k.elim⟩
  have free : Free .effect lawful (s.updVent v fun x => { x with stops := 0, retries := 0 }) v := by
    refine ⟨fun _ => .inr fun c hc => hu c hc, hst, fun l k => ?_, fun l _ => rfl⟩
    rw [updVent_same] at k
    have hr := hr l
    rw [show s.vents[v.val].state = .dwell from k] at hr; cases hr
  exact .tail (.tail (.single m1) (toIdle_move free))
    (evaluate_move (Free.of_idle (toIdle_state v _) fun l => by simpa [toIdle] using hst l))

/-- A vent whose run a verdict stops leaves RUN as `f` says. -/
theorem stopsTo_moves (f : Vent → Vent) (p : ChanId → Position) (count : Bool)
    (hr : lawful → s.vents[v.val].state.running = true)
    (hp : ∀ c ∈ s.channels v, s.stopsAt lawful v c (p c))
    (hf : ∀ x, (f x).state.running = false ∧ (f x).state ≠ .announced ∧ (f x).state ≠ .dwell ∧ (f x).lastDir = x.lastDir ∧
      (f x).runStart = x.runStart ∧ (f x).committed = x.committed ∧ (f x).target = x.target ∧ (f x).stopTime = none)
    (hst : lawful → ∀ a, s.supply.start = some a → a.vent ≠ v) :
    Moves .effect lawful v s
      ((if count then countStop v (stopDriven v p s) else stopDriven v p s).updVent v f) := by
  have m1 : Move .effect lawful v s (stopDriven v p s) := .stop s p hr hp
  have m2 : Moves .effect lawful v s (if count then countStop v (stopDriven v p s) else stopDriven v p s) := by
    cases count
    · exact .single m1
    · exact .tail (.single m1) (countStop_move (.inl id))
  have hc : (if count then countStop v (stopDriven v p s) else stopDriven v p s).chans = (stopDriven v p s).chans := by
    cases count <;> rfl
  have hs : (if count then countStop v (stopDriven v p s) else stopDriven v p s).supply = s.supply := by
    cases count <;> simp
  have hv : (if count then countStop v (stopDriven v p s) else stopDriven v p s).vents[v.val].state = s.vents[v.val].state := by
    cases count <;> simp [countStop_get]
  refine .tail m2 (.rest _ f ?_ ?_)
  · refine ⟨fun _ => .inr ?_, by rwa [hs], fun l k => ?_, fun _ _ => rfl⟩
    · exact undriven_of hc (m2.still.trans (stopDriven_still v p s).symm) (stopDriven_undriven v p s)
    · rw [hv] at k
      have hr := hr l
      rw [k] at hr; cases hr
  · obtain ⟨h1, h2, h3, h4, h5, h6, h7, h8⟩ := hf (if count then countStop v (stopDriven v p s) else stopDriven v p s).vents[v.val]
    exact ⟨⟨h1, h2⟩, ⟨h4, h5, h6, h7⟩, .inl h8, fun k => absurd k h3, fun k => k.elim, fun k => k.elim⟩

/-- R59: the items of a vent as it enters LOCKED. -/
def Vent.lock (k : FaultKind) (x : Vent) : Vent :=
  { x with state := .locked, fault := k, runKind := none, stopTime := none, dwellEnds := none, coolEnds := none }

/-- R50: the items of a vent as it enters STALLED. -/
def Vent.cool (now : Micros) (x : Vent) : Vent :=
  { x with
    state := .stalled, retries := x.retries + 1, runKind := none, stopTime := none
    coolEnds := some (now + Config.coolDown) }

theorem short_moves (hr : lawful → s.vents[v.val].state.running = true)
    (hst : lawful → ∀ a, s.supply.start = some a → a.vent ≠ v) : Moves .effect lawful v s (short v s) :=
  stopsTo_moves (Vent.lock .short) _ true hr (fun _ _ => .inl rfl)
    (fun _ => ⟨rfl, nofun, nofun, rfl, rfl, rfl, rfl, rfl⟩) hst

theorem stall_moves (hr : lawful → s.vents[v.val].state.running = true)
    (hst : lawful → ∀ a, s.supply.start = some a → a.vent ≠ v) : Moves .effect lawful v s (stall v s) := by
  unfold stall
  simp only
  split
  · exact stopsTo_moves (Vent.cool _) _ true hr (fun _ _ => .inl rfl)
      (fun _ => ⟨rfl, nofun, nofun, rfl, rfl, rfl, rfl, rfl⟩) hst
  · exact stopsTo_moves (Vent.lock .stallLimit) _ true hr (fun _ _ => .inl rfl)
      (fun _ => ⟨rfl, nofun, nofun, rfl, rfl, rfl, rfl, rfl⟩) hst

theorem openCircuit_moves (c : ChanId) (hr : lawful → s.vents[v.val].state.running = true)
    (hst : lawful → ∀ a, s.supply.start = some a → a.vent ≠ v) : Moves .effect lawful v s (openCircuit v c s) := by
  refine stopsTo_moves (Vent.lock .openCircuit) _ false hr (fun e _ => ?_) (fun _ => ⟨rfl, nofun, nofun, rfl, rfl, rfl, rfl, rfl⟩) hst
  split
  · next h => subst h; exact .inr (.inl rfl)
  · exact .inl rfl

/-- R79: the end of inrush windows changes nothing a law reads. -/
theorem endInrush_moves (v : VentId) (s : State) : Moves .effect lawful v s (endInrush v s) := by
  have fold : ∀ (l : List ChanId) (u : State), (∀ c ∈ l, c ∈ u.channels v) → Moves .effect lawful v u (l.foldl (fun s c =>
      if due s.chans[c].inrush s.now then s.updChan c fun x => { x with inrush := none } else s) u) := by
    intro l
    induction l with
    | nil => exact fun _ _ => .refl
    | cons c l ih =>
      intro u hu
      rw [List.foldl_cons]
      have m : Moves .effect lawful v u
          (if due u.chans[c].inrush u.now then u.updChan c fun x => { x with inrush := none } else u) := by
        split
        · exact .single (.tune u c _ rfl (hu c (by simp)) ⟨rfl, rfl, rfl⟩)
        · exact .refl
      exact m.trans (ih _ fun e he => by rw [channels_of_still m.still]; exact hu e (by simp [he]))
  exact fold _ s fun _ h => h

end Sys2Proof.Machine
end

section
/-! SUPPORT. The laws of positions, drives and runs, and the latching of estimates, proved of the moves (R43 to R46). -/

namespace Sys2Proof.Machine

variable {ph : Phase} {lawful : Prop} {v : VentId} {s t : State}

/-! ### What a move does to a channel -/

/-- R43 to R48: a move leaves a channel's positions and drive as they were, or begins its run, or stops it. -/
theorem Move.chan_cases (h : Move ph lawful v s t) (c : ChanId) :
    (t.chans[c.val].estimate = s.chans[c.val].estimate ∧ t.chans[c.val].startPos = s.chans[c.val].startPos ∧
        t.chans[c.val].driven = s.chans[c.val].driven) ∨
      (c ∈ s.channels v ∧ ∃ d k, Begins ph lawful s v d k ∧
        t.chans[c.val] = s.chans[c.val].begun d s.now s.image.inrushMs) ∨
      (c ∈ s.channels v ∧ s.chans[c.val].driven.isSome = true ∧ t.chans[c.val].driven = none ∧
        t.chans[c.val].startPos = s.chans[c.val].startPos ∧
        (s.stopsAt lawful v c t.chans[c.val].estimate ∨
          ph = .verdict ∧ (t.chans[c.val].estimate = none ∨ ∃ d : Dir, t.chans[c.val].estimate = some d.endPos))) := by
  have stops : ∀ p : ChanId → Position, c ∈ s.channels v → s.chans[c.val].driven.isSome = true →
      (stopDriven v p s).chans[c.val] = s.chans[c.val].stop (p c) := fun p hc hd => by
    rw [stopDriven_get, if_pos hc, if_pos hd]
  have stays : ∀ p : ChanId → Position, ¬ (c ∈ s.channels v ∧ s.chans[c.val].driven.isSome = true) →
      (stopDriven v p s).chans[c.val] = s.chans[c.val] := fun p hn => by
    rw [stopDriven_get]
    split_ifs with h1 h2
    · exact absurd ⟨h1, h2⟩ hn
    · rfl
    · rfl
  cases h with
  | note _ _ => exact .inl ⟨rfl, rfl, rfl⟩
  | rest _ _ => exact .inl ⟨rfl, rfl, rfl⟩
  | announce => exact .inl ⟨rfl, rfl, rfl⟩
  | clear => exact .inl ⟨rfl, rfl, rfl⟩
  | withdraw _ _ _ _ _ _ _ => exact .inl ⟨rfl, rfl, rfl⟩
  | undwell _ _ => exact .inl ⟨rfl, rfl, rfl⟩
  | begin d k _ hb _ =>
    by_cases hc : c ∈ s.channels v
    · exact .inr (.inl ⟨hc, d, k, hb, by rw [begunRun_get, if_pos hc]⟩)
    · exact .inl (by rw [begunRun_get, if_neg hc]; exact ⟨rfl, rfl, rfl⟩)
  | stop p hr hp =>
    by_cases hn : c ∈ s.channels v ∧ s.chans[c.val].driven.isSome = true
    · obtain ⟨hc, hd⟩ := hn
      exact .inr (.inr ⟨hc, hd, by rw [stops p hc hd]; exact ⟨rfl, rfl, .inl (hp c hc)⟩⟩)
    · exact .inl (by rw [stays p hn]; exact ⟨rfl, rfl, rfl⟩)
  | timeout hp hr =>
    by_cases hn : c ∈ s.channels v ∧ s.chans[c.val].driven.isSome = true
    · obtain ⟨hc, hd⟩ := hn
      refine .inr (.inr ⟨hc, hd, ?_⟩)
      simp only [runTimeout, toLocked, updVent_chans, stops _ hc hd]
      exact ⟨rfl, rfl, .inr ⟨hp, .inl rfl⟩⟩
    · refine .inl ?_
      simp only [runTimeout, toLocked, updVent_chans, stays _ hn]
      exact ⟨trivial, trivial, trivial⟩
  | tune e f hp he hf =>
    rw [updChan_get]
    split
    · next k => subst k; exact .inl hf
    · exact .inl ⟨rfl, rfl, rfl⟩
  | anchored e d hp he hd =>
    rw [updChan_get]
    split
    · next k => subst k; exact .inr (.inr ⟨he, by rw [hd]; rfl, rfl, rfl, .inr ⟨hp, .inr ⟨d, rfl⟩⟩⟩)
    · exact .inl ⟨rfl, rfl, rfl⟩

/-- The target a vent holds stays, or is its effective one. -/
theorem Move.target (h : Move ph lawful v s t) (w : VentId) :
    t.vents[w.val].target = s.vents[w.val].target ∨ t.vents[w.val].target = (s.effective w).1 := by
  by_cases hw : w = v
  swap
  · exact .inl (by rw [h.others.1 w hw])
  subst hw
  cases h with
  | note f hf => rw [updVent_same]; exact hf.target
  | rest f _ hf => rw [updVent_same]; exact .inl hf.kept.2.2.2
  | announce => rw [announce_same]; exact .inl rfl
  | begin d k c _ _ => rw [begunRun_same]; exact .inl rfl
  | clear => exact .inl rfl
  | stop p _ _ => rw [stopDriven_vents]; exact .inl rfl
  | withdraw old _ _ _ _ _ _ => simp [toIdle]
  | tune c f _ _ _ => exact .inl rfl
  | anchored c d _ _ _ => exact .inl rfl
  | timeout _ _ => simp [runTimeout, toLocked]
  | undwell _ _ => simp [toIdle]

/-! ### Positions (R44, R21) -/

/-- Every record of the vent has a target in 0–1000 or HOLD. -/
def Records.inTravel (r : Records) : Prop :=
  recordInTravel r.brigade ∧ recordInTravel r.fire ∧ recordInTravel r.weather ∧ recordInTravel r.manual ∧
    recordInTravel r.comfort

theorem effective_inTravel {r : Records} (h : r.inTravel) : r.effective.1.inTravel := by
  obtain ⟨h1, h2, h3, h4, h5⟩ := h
  unfold Records.effective Records.top
  intro x hx
  rcases e1 : r.brigade with _ | b <;> rcases e2 : r.fire with _ | f <;> rcases e3 : r.weather with _ | w <;>
    rcases e4 : r.manual with _ | m <;> rcases e5 : r.comfort with _ | k <;> simp only [e1, e2, e3, e4, e5] at hx
  all_goals first
    | exact h1 _ e1 x hx
    | exact h2 _ e2 x hx
    | exact h3 _ e3 x hx
    | exact h4 _ e4 x hx
    | exact h5 _ e5 x hx
    | (cases hx; decide)

theorem chanPos_inTravel (v : VentId) {c : ChanId} (h1 : inTravel s.chans[c.val].estimate)
    (h2 : inTravel s.chans[c.val].startPos) : inTravel (s.chanPos v c) := by
  unfold State.chanPos
  split
  · exact h1
  · intro x hx
    obtain ⟨p, hp, rfl⟩ := Option.map_eq_some_iff.1 hx
    exact travelled_le _ _ (h2 p hp) _

theorem Move.positionLaw (h : Move ph lawful v s t) (hs : s.PositionLaw) : t.PositionLaw := by
  obtain ⟨hc, hv⟩ := hs
  have still := h.still
  refine ⟨fun c => ?_, fun w => ?_⟩
  · obtain ⟨h1, h2, h3⟩ := hc c
    simp only [Fin.getElem_fin] at h1 h2 h3 ⊢
    rw [retention_of_still still]
    rcases h.chan_cases c with ⟨e1, e2, -⟩ | ⟨-, d, k, -, e⟩ | ⟨-, -, -, e2, e⟩
    · rw [e1, e2]; exact ⟨h1, h2, h3⟩
    · rw [e]; exact ⟨h1, h1, h3⟩
    · rw [e2]
      refine ⟨?_, h2, h3⟩
      rcases e with (e | e | ⟨q, hq, e, -⟩) | ⟨-, e | ⟨d, e⟩⟩ <;> rw [e]
      · exact chanPos_inTravel v h1 h2
      · exact h2
      · rintro x ⟨⟩; exact (hv v).1 q hq
      · nofun
      · rintro x ⟨⟩; cases d <;> decide
  · obtain ⟨h1, h2⟩ := hv w
    simp only [Fin.getElem_fin, demand_of_still still] at h1 h2 ⊢
    refine ⟨?_, h2⟩
    rcases h.target w with e | e <;> rw [e]
    · exact h1
    · exact effective_inTravel h2

/-! ### Drives (R43, R57, R59, R60) -/

theorem State.DriveLaw.inRun (h : s.DriveLaw) {c : ChanId} {d : Dir} (hd : s.chans[c.val].driven = some d) :
    s.inRun = true := by
  obtain ⟨-, -, hr, -⟩ := h
  by_contra k
  rw [State.inRun, decide_eq_true_eq] at k
  have := (hr k).1 c
  rw [Fin.getElem_fin, hd] at this; cases this

/-- The drive law after a change of one vent, its channels and the start in progress. -/
theorem State.DriveLaw.change (h : s.DriveLaw) (hi : t.still = s.still)
    (ho : (∀ w : VentId, w ≠ v → t.vents[w.val] = s.vents[w.val]) ∧ ∀ c : ChanId, c ∉ s.channels v → t.chans[c.val] = s.chans[c.val])
    (hd : ∀ c ∈ s.channels v, ∀ d, t.chans[c.val].driven = some d → t.vents[v.val].state = d.runState ∧ s.inRun = true)
    (hs : ∀ a, t.supply.start = some a → (s.supply.start = some a ∨ a.vent = v ∧ s.inRun = true) ∧
      (a.vent = v → t.vents[v.val].state = .announced)) : t.DriveLaw := by
  obtain ⟨apart, driven, rest, start⟩ := h
  obtain ⟨ov, oc⟩ := ho
  refine ⟨by rwa [image_of_still hi], fun c d e => ?_, fun k => ⟨fun c => ?_, ?_⟩, fun a ha => ?_⟩
  · simp only [Fin.getElem_fin] at e ⊢
    by_cases hc : c ∈ s.channels v
    · exact ⟨v, by rwa [channels_of_still hi], (hd c hc d e).1⟩
    · rw [oc c hc] at e
      obtain ⟨w, hw, k⟩ := driven c d e
      exact ⟨w, by rwa [channels_of_still hi], by rw [ov w (fun q => hc (q ▸ hw))]; exact k⟩
  · rw [boot_of_still hi] at k
    by_cases hc : c ∈ s.channels v
    · rcases e : t.chans[c.val].driven with _ | d
      · rfl
      · exact absurd (by simpa [State.inRun] using (hd c hc d e).2) k
    · rw [Fin.getElem_fin, oc c hc]; exact (rest k).1 c
  · rw [boot_of_still hi] at k
    rcases e : t.supply.start with _ | a
    · rfl
    · rcases (hs a e).1 with h | ⟨-, h⟩
      · rw [(rest k).2] at h; cases h
      · exact absurd (by simpa [State.inRun] using h) k
  · obtain ⟨h1, h2⟩ := hs a ha
    by_cases hv : a.vent = v
    · simp only [hv]; exact h2 hv
    · rcases h1 with h1 | ⟨h1, -⟩
      · rw [Fin.getElem_fin, ov _ hv]; exact start a h1
      · exact absurd h1 hv

theorem Move.driveLaw (h : Move ph lawful v s t) (hl : lawful) (hs : s.DriveLaw) : t.DriveLaw := by
  have runs := fun (c : ChanId) (hc : c ∈ s.channels v) (d : Dir) (e : s.chans[c.val].driven = some d) =>
    And.intro (hs.runs hc e) (hs.inRun e)
  have none_of {u : State} (hu : ∀ c ∈ s.channels v, u.chans[c.val].driven = none) : ∀ c ∈ s.channels v, ∀ d : Dir,
      u.chans[c.val].driven = some d → u.vents[v.val].state = d.runState ∧ s.inRun = true := fun c hc d e => by
    rw [hu c hc] at e; cases e
  have quiet {u : State} (hu : u.vents[v.val].state = s.vents[v.val].state) : ∀ a, s.supply.start = some a →
      (s.supply.start = some a ∨ a.vent = v ∧ s.inRun = true) ∧ (a.vent = v → u.vents[v.val].state = .announced) :=
    fun a ha => ⟨.inl ha, fun k => by rw [hu]; exact k ▸ hs.2.2.2 a ha⟩
  have moved {u : State} (hu : ∀ a, s.supply.start = some a → a.vent ≠ v) : ∀ a, s.supply.start = some a →
      (s.supply.start = some a ∨ a.vent = v ∧ s.inRun = true) ∧ (a.vent = v → u.vents[v.val].state = .announced) :=
    fun a ha => ⟨.inl ha, fun k => absurd k (hu a ha)⟩
  have running (hr : s.vents[v.val].state.running = true) : s.vents[v.val].state ≠ .announced := fun k => by
    rw [k] at hr; cases hr
  refine hs.change h.still h.others ?_ ?_
  · cases h with
    | note f hf => rw [updVent_same, hf.state]; exact runs
    | rest f free hf =>
      rcases free.was hl with k | k
      · exact none_of (hs.undriven k)
      · exact none_of k
    | announce _ _ hw => exact none_of (hs.undriven (by rw [hw]; rfl))
    | begin d k _ hb _ =>
      intro c hc e he
      rw [begunRun_get, if_pos hc] at he
      cases he
      exact ⟨by rw [begunRun_same], (hb.origin hl).1⟩
    | clear => exact runs
    | stop p hr hp => exact none_of fun c hc => stopDriven_undriven v p s c (by rwa [channels_of_still (stopDriven_still v p s)])
    | withdraw old _ hu _ _ _ _ => exact none_of hu
    | tune c f _ _ hf =>
      intro e he d hd
      rw [updChan_get] at hd
      split at hd
      · next k => subst k; exact runs e he d (by rw [← hf.2.2]; exact hd)
      · exact runs e he d hd
    | anchored c d _ _ hd =>
      intro e he d hd
      rw [updChan_get] at hd
      split at hd
      · cases hd
      · exact runs e he d hd
    | timeout _ _ =>
      exact none_of fun c hc => stopDriven_undriven v _ s c (by rwa [channels_of_still (stopDriven_still v _ s)])
    | undwell _ hd => exact none_of (hs.undriven (by rw [hd]; rfl))
  · cases h with
    | note f hf => exact quiet (by rw [updVent_same, hf.state])
    | rest f free hf => exact moved (free.start hl)
    | announce _ hr hw =>
      rintro a ⟨⟩
      exact ⟨.inr ⟨rfl, hr⟩, fun _ => by rw [announce_same]⟩
    | begin d k _ hb _ => intro a ha; rw [begunRun_supply, hb.start] at ha; cases ha
    | clear => nofun
    | stop p hr hp => rw [stopDriven_supply]; exact quiet (by rw [stopDriven_vents])
    | withdraw old hr _ _ _ _ _ => exact moved (hs.start_ne (running hr))
    | tune c f _ _ _ => exact quiet rfl
    | anchored c d _ _ _ => exact quiet rfl
    | timeout _ hr =>
      intro a ha
      rw [show (runTimeout v s).supply = s.supply from stopDriven_supply v _ s] at ha
      exact moved (hs.start_ne (running (hr hl))) a ha
    | undwell _ hd => exact moved (hs.start_ne (by rw [hd]; decide))

/-! ### Runs (R43 to R45) -/

theorem chanPos_known (hs : s.RunLaw) (c : ChanId) : (s.chanPos v c).isSome = s.chans[c.val].estimate.isSome := by
  unfold State.chanPos
  simp only [Fin.getElem_fin]
  rcases e : s.chans[c.val].driven with _ | d
  · rfl
  · have := hs.1 c (by simp [e])
    simp only [Fin.getElem_fin] at this
    simp [this]

/-- R44: no move but a verdict makes a known estimate UNKNOWN or an UNKNOWN one known. -/
theorem Move.known (h : Move ph lawful v s t) (hl : lawful) (hs : s.RunLaw) (hp : ph ≠ .verdict) (c : ChanId) :
    t.chans[c.val].estimate.isSome = s.chans[c.val].estimate.isSome := by
  rcases h.chan_cases c with ⟨e, -, -⟩ | ⟨-, d, k, -, e⟩ | ⟨-, hd, -, -, (e | e | ⟨q, -, e, k⟩) | ⟨e, -⟩⟩
  · rw [e]
  · rw [e]; rfl
  · rw [e, chanPos_known hs]
  · rw [e]; exact congrArg _ (hs.1 c hd)
  · rw [e, ← chanPos_known hs, k hl hs]; rfl
  · exact absurd e hp

theorem runStop_some {d : Dir} {k : RunKind} {start : Micros} {p0 : Position}
    (h : (s.runStop v d k start p0).isSome = true) : k = .toStop ∧ p0.isSome = true := by
  unfold State.runStop at h
  split at h
  · exact ⟨rfl, rfl⟩
  · cases h

/-- What a move makes of the vent it is made for: the stop time's law and the direction's. -/
theorem Move.runs (h : Move ph lawful v s t) (hl : lawful) (hs : s.RunLaw) :
    (t.vents[v.val].stopTime.isSome = true → t.vents[v.val].state.running = true ∧ t.vents[v.val].runKind = some .toStop ∧
      ∀ c ∈ s.channels v, s.chans[c.val].estimate.isSome = true) ∧
    ∀ d : Dir, t.vents[v.val].state = d.runState →
      t.vents[v.val].lastDir = some d ∧ ∀ e, t.vents[v.val].committed = some (some e) → e = d := by
  have stop := hs.2.1 v
  have dir := hs.2.2 v
  have not_run {x : VentState} (hx : x.running = false) {d : Dir} {P : Prop} (k : x = d.runState) : P := by
    rw [k, running_runState] at hx; cases hx
  cases h with
  | note f hf =>
    rw [updVent_same]
    obtain ⟨e1, e2, e3, -⟩ := hf.kept
    rw [hf.state, e1, e3]
    refine ⟨fun k => ?_, dir⟩
    rcases hf.stopTime with e | ⟨e, e'⟩ | ⟨h1, h2, h3⟩
    · rw [e] at k; cases k
    · rw [e] at k
      obtain ⟨k1, k2, k3⟩ := stop k
      refine ⟨k1, ?_, k3⟩
      rcases e' with e' | e'
      · rw [e']; exact k2
      · exact absurd k2 e'
    · exact ⟨h1, h2, fun c hc => by rw [← chanPos_known hs]; exact h3 c hc⟩
  | rest f free hf =>
    rw [updVent_same]
    refine ⟨fun k => ?_, fun d k => not_run hf.state.1 k⟩
    rcases hf.stopTime with e | ⟨e, e'⟩
    · rw [e] at k; cases k
    · rw [e] at k
      have k1 := (stop k).1
      simp only [Fin.getElem_fin] at k1
      rw [e' hl] at k1; cases k1
  | announce _ _ hw =>
    rw [announce_same]
    refine ⟨fun k => ?_, fun d k => not_run (x := .announced) rfl k⟩
    have k1 := (stop k).1
    simp only [Fin.getElem_fin] at k1
    rw [hw] at k1; cases k1
  | begin d k c hb hc =>
    rw [begunRun_same]
    refine ⟨fun e => ?_, fun e he => ?_⟩
    · obtain ⟨e1, e2⟩ := runStop_some e
      obtain ⟨q, hq⟩ := Option.isSome_iff_exists.1 e2
      exact ⟨running_runState d, by rw [e1], fun c hc => by rw [← chanPos_known hs]; exact known_of_ventPos hq c hc⟩
    · obtain rfl : d = e := by cases d <;> cases e <;> first | rfl | cases he
      refine ⟨rfl, fun e' he' => ?_⟩
      rcases hc with rfl | ⟨-, rfl⟩
      · cases he'
      · have hp := hb.permits
        simp only [Option.some.injEq] at he'
        rw [Vent.permits, he'] at hp
        simpa using hp.symm
  | clear => exact ⟨stop, dir⟩
  | stop p hr hp => rw [stopDriven_vents]; exact ⟨stop, dir⟩
  | withdraw old _ _ _ _ _ _ =>
    simp only [toIdle, updVent_same]
    exact ⟨nofun, fun d k => not_run (x := .idle) rfl k⟩
  | tune c f _ _ hf => exact ⟨stop, dir⟩
  | anchored c d _ _ hd => exact ⟨stop, dir⟩
  | timeout _ _ =>
    simp only [runTimeout, toLocked, updVent_same]
    exact ⟨nofun, fun d k => not_run (x := .locked) rfl k⟩
  | undwell _ hd =>
    simp only [toIdle, updVent_same]
    exact ⟨nofun, fun d k => not_run (x := .idle) rfl k⟩

/-- A verdict that makes an estimate UNKNOWN leaves the vent without a stop time; every other move keeps known what is known. -/
theorem Move.keepsKnown (h : Move ph lawful v s t) (hl : lawful) (hs : s.RunLaw)
    (ht : t.vents[v.val].stopTime.isSome = true) (c : ChanId) (hc : s.chans[c.val].estimate.isSome = true) :
    t.chans[c.val].estimate.isSome = true := by
  by_cases hp : ph = .verdict
  swap
  · rw [h.known hl hs hp]; exact hc
  subst hp
  cases h with
  | timeout _ _ => simp only [runTimeout, toLocked, updVent_same] at ht; cases ht
  | anchored e d _ _ _ =>
    rw [updChan_get]
    split
    · rfl
    · exact hc
  | stop p hr hk =>
    rw [stopDriven_get]
    split_ifs with h1 h2
    · rcases hk c h1 with e | e | ⟨q, -, e, -⟩
      · simp only [Channel.stop, e]; rw [chanPos_known hs]; exact hc
      · simp only [Channel.stop, e]
        have := hs.1 c h2
        simp only [Fin.getElem_fin] at this
        rw [this]; exact hc
      · simp only [Channel.stop, e]; rfl
    · exact hc
    · exact hc
  | begin d k _ _ _ => rw [begunRun_get]; split <;> exact hc
  | tune e f hq _ _ => cases hq
  | _ => exact hc

theorem Move.runLaw (h : Move ph lawful v s t) (hl : lawful) (hd : s.DriveLaw) (hs : s.RunLaw) : t.RunLaw := by
  obtain ⟨ov, oc⟩ := h.others
  have ch := fun w => channels_of_still h.still w
  obtain ⟨hstop, hdir⟩ := h.runs hl hs
  refine ⟨fun c e => ?_, fun w => ?_, fun w => ?_⟩ <;> simp only [Fin.getElem_fin] at *
  · rcases h.chan_cases c with ⟨e1, e2, e3⟩ | ⟨-, d, k, -, e1⟩ | ⟨-, -, e3, -, -⟩
    · rw [e1, e2]; exact hs.1 c (by rw [e3] at e; exact e)
    · rw [e1]; rfl
    · rw [e3] at e; cases e
  · by_cases hw : w = v
    · subst hw
      intro k
      obtain ⟨k1, k2, k3⟩ := hstop k
      exact ⟨k1, k2, fun c hc => h.keepsKnown hl hs k c (k3 c (by rwa [ch] at hc))⟩
    · rw [ov w hw, ch]
      intro k
      obtain ⟨k1, k2, k3⟩ := hs.2.1 w k
      exact ⟨k1, k2, fun c hc => by rw [oc c (hd.1 w v hw c hc)]; exact k3 c hc⟩
  · by_cases hw : w = v
    · subst hw; exact hdir
    · rw [ov w hw]; exact hs.2.2 w

end Sys2Proof.Machine
end

section
/-! SUPPORT. Sequences of moves, with what the other blocks do between them, and the completion of an event as one. -/

namespace Sys2Proof.Machine

open Relation

/-! ### What the other blocks do between two moves -/

/-- The parts of the state that the laws of the Drive Unit read; the other blocks' own items stand at reset values. -/
def State.plant (s : State) : State :=
  { State.reset with
    now := s.now, boot := s.boot, image := s.image, demand := s.demand, vents := s.vents, chans := s.chans
    retention := s.retention, supply := s.supply }

/-- Another block acts: the vents, their channels and the start in progress stand; the station may enter RUN; records may be
written with targets in travel, and the retention memory with estimates. -/
structure Aside (s t : State) : Prop where
  vents : t.vents = s.vents
  chans : t.chans = s.chans
  start : t.supply.start = s.supply.start
  now : t.now = s.now
  image : t.image = s.image
  station : t.boot.station = s.boot.station ∨ s.boot.station = .join ∧ t.boot.station = .run
  records : (∀ v : VentId, s.demand[v.val].inTravel) → ∀ v : VentId, t.demand[v.val].inTravel
  retention : (∀ c : ChanId, inTravel s.retention[c.val] ∧ inTravel s.chans[c.val].estimate) →
    ∀ c : ChanId, inTravel t.retention[c.val]

theorem Aside.of_plant {s t : State} (h : t.plant = s.plant) : Aside s t where
  vents := (congrArg State.vents h :)
  chans := (congrArg State.chans h :)
  start := (congrArg (fun u => u.supply.start) h :)
  now := (congrArg State.now h :)
  image := (congrArg State.image h :)
  station := .inl (congrArg (fun u => u.boot.station) h :)
  records := fun k v => by
    have e : t.demand = s.demand := (congrArg State.demand h :)
    rw [e]; exact k v
  retention := fun k c => by
    have e : t.retention = s.retention := (congrArg State.retention h :)
    rw [e]; exact (k c).1

variable {ph : Phase} {lawful : Prop} {P Q : Phase → Prop} {v : VentId} {s t u : State}

theorem Aside.channels (h : Aside s t) (v : VentId) : t.channels v = s.channels v := by
  rw [State.channels, State.cfg, h.image]; rfl

/-- Another block acts that writes no record and no retained position. -/
theorem Aside.of_eq (h1 : t.vents = s.vents) (h2 : t.chans = s.chans) (h3 : t.supply.start = s.supply.start)
    (h4 : t.now = s.now) (h5 : t.image = s.image) 
    (h6 : t.boot.station = s.boot.station ∨ s.boot.station = .join ∧ t.boot.station = .run)
    (h7 : t.demand = s.demand) (h8 : t.retention = s.retention) : Aside s t :=
  ⟨h1, h2, h3, h4, h5, h6, fun k => by rw [h7]; exact k, fun k c => by rw [h8]; exact (k c).1⟩

/-- Another block acts that writes records alone. -/
theorem Aside.of_records (h : (∀ v : VentId, s.demand[v.val].inTravel) → ∀ v : VentId, t.demand[v.val].inTravel)
    (k : t = s.withDemand t.demand) : Aside s t := by
  rw [k] at h ⊢
  exact ⟨rfl, rfl, rfl, rfl, rfl, .inl rfl, h, fun k c => (k c).1⟩

/-- No FIRE record is written. -/
def SameFire (s t : State) : Prop := ∀ v : VentId, t.demand[v.val].fire = s.demand[v.val].fire

/-- A move, or an act of another block, which writes FIRE records and retained positions only in the parts of the event that are
for them. -/
def Step (P : Phase → Prop) (lawful : Prop) (s t : State) : Prop :=
  Aside s t ∧ (SameFire s t ∨ P .records) ∧ (t.retention = s.retention ∨ P .retain) ∨ ∃ ph v, P ph ∧ Move ph lawful v s t

/-- A sequence of moves in the parts of an event that P admits, and of acts of the other blocks. -/
abbrev Path (P : Phase → Prop) (lawful : Prop) : State → State → Prop := ReflTransGen (Step P lawful)

theorem Aside.path (h : Aside s t) (k : SameFire s t := by intro; rfl) (r : t.retention = s.retention := by rfl) :
    Path P lawful s t := .single (.inl ⟨h, .inl k, .inl r⟩)

theorem Aside.records_path (h : Aside s t) (hp : P .records) (r : t.retention = s.retention := by rfl) : Path P lawful s t :=
  .single (.inl ⟨h, .inr hp, .inl r⟩)

theorem Aside.retain_path (h : Aside s t) (hp : P .records) (hr : P .retain) : Path P lawful s t :=
  .single (.inl ⟨h, .inr hp, .inr hr⟩)

theorem Moves.path (h : Moves ph lawful v s t) (hp : P ph) : Path P lawful s t :=
  ReflTransGen.mono (fun _ _ m => .inr ⟨ph, v, hp, m⟩) _ _ h

theorem Move.path (h : Move ph lawful v s t) (hp : P ph) : Path P lawful s t := .single (.inr ⟨ph, v, hp, h⟩)

theorem Path.mono (h : Path P lawful s t) (hq : ∀ ph, P ph → Q ph) : Path Q lawful s t :=
  ReflTransGen.mono (fun _ _ m => m.imp (fun ⟨a, k, r⟩ => ⟨a, k.imp id (hq _), r.imp id (hq _)⟩)
    fun ⟨ph, v, hp, m⟩ => ⟨ph, v, hq ph hp, m⟩) _ _ h

/-! ### The laws along a path -/

theorem Aside.positionLaw (h : Aside s t) (hs : s.PositionLaw) : t.PositionLaw := by
  obtain ⟨hc, hv⟩ := hs
  have hr := h.records fun v => (hv v).2
  have hm := h.retention fun c => ⟨(hc c).2.2, (hc c).1⟩
  refine ⟨fun c => ?_, fun v => ⟨?_, hr v⟩⟩ <;> simp only [Fin.getElem_fin, h.chans, h.vents]
  · exact ⟨(hc c).1, (hc c).2.1, hm c⟩
  · exact (hv v).1

theorem Aside.driveLaw (h : Aside s t) (hs : s.DriveLaw) : t.DriveLaw := by
  obtain ⟨h1, h2, h3, h4⟩ := hs
  refine ⟨by rwa [h.image], fun c d e => ?_, fun k => ?_, fun a ha => ?_⟩
  · rw [h.chans] at e
    obtain ⟨w, hw, k⟩ := h2 c d e
    exact ⟨w, by rwa [h.channels], by rwa [h.vents]⟩
  · rw [h.chans, h.start]
    rcases h.station with e | e
    · exact h3 (e ▸ k)
    · exact absurd e.2 k
  · rw [h.start] at ha; rw [h.vents]; exact h4 a ha

theorem Aside.runLaw (h : Aside s t) (hs : s.RunLaw) : t.RunLaw := by
  unfold State.RunLaw at *
  simp only [h.chans, h.vents, h.channels]
  exact hs

theorem Path.positionLaw (h : Path P lawful s t) (hs : s.PositionLaw) : t.PositionLaw := by
  induction h with
  | refl => exact hs
  | tail _ m ih => rcases m with ⟨m, -⟩ | ⟨ph, v, -, m⟩; exacts [m.positionLaw ih, m.positionLaw ih]

/-- Where the moves are made in lawful states, the state they start from obeys the drive law. -/
abbrev Obeys (lawful : Prop) (s : State) : Prop := lawful → s.DriveLaw

theorem Moves.obeys (h : Moves ph lawful v s t) (hs : Obeys lawful s) : Obeys lawful t := by
  induction h with
  | refl => exact hs
  | tail _ m ih => exact fun l => m.driveLaw l (ih l)

theorem Path.obeys (h : Path P lawful s t) (hs : Obeys lawful s) : Obeys lawful t := by
  induction h with
  | refl => exact hs
  | tail _ m ih => rcases m with ⟨m, -⟩ | ⟨ph, v, -, m⟩; exacts [fun l => m.driveLaw (ih l), fun l => m.driveLaw l (ih l)]

theorem Path.runLaw (h : Path P True s t) (hd : s.DriveLaw) (hs : s.RunLaw) : t.RunLaw := by
  induction h with
  | refl => exact hs
  | tail p m ih =>
    have := Path.obeys p (fun _ => hd) trivial
    rcases m with ⟨m, -⟩ | ⟨ph, v, -, m⟩; exacts [m.runLaw ih, m.runLaw trivial this ih]

/-- R44: along a path without a verdict an estimate stays known, or UNKNOWN. -/
theorem Path.known (h : Path P True s t) (hp : ¬ P .verdict) (hd : s.DriveLaw) (hs : s.RunLaw) (c : ChanId) :
    t.chans[c.val].estimate.isSome = s.chans[c.val].estimate.isSome := by
  induction h with
  | refl => rfl
  | tail p m ih =>
    rcases m with ⟨m, -⟩ | ⟨ph, v, hq, m⟩
    · rw [m.chans]; exact ih
    · exact (m.known trivial (Path.runLaw p hd hs) (fun k => hp (k ▸ hq)) c).trans ih

theorem Path.now (h : Path P lawful s t) : t.now = s.now := by
  induction h with
  | refl => rfl
  | tail _ m ih => rcases m with ⟨m, -⟩ | ⟨ph, v, -, m⟩; exacts [m.now.trans ih, (now_of_still m.still).trans ih]

theorem Path.image (h : Path P lawful s t) : t.image = s.image := by
  induction h with
  | refl => rfl
  | tail _ m ih => rcases m with ⟨m, -⟩ | ⟨ph, v, -, m⟩; exacts [m.image.trans ih, (image_of_still m.still).trans ih]

theorem Path.channels (h : Path P lawful s t) (v : VentId) : t.channels v = s.channels v := by
  rw [State.channels, State.cfg, h.image]; rfl

theorem Aside.active (h : Aside s t) : t.active = s.active := by
  rcases h.station with e | ⟨e, k⟩
  · simp only [State.active, e]
  · simp only [State.active, e, k]; rfl

theorem Aside.trans (h : Aside s t) (k : Aside t u) : Aside s u where
  vents := k.vents.trans h.vents
  chans := k.chans.trans h.chans
  start := k.start.trans h.start
  now := k.now.trans h.now
  image := k.image.trans h.image
  station := by
    rcases k.station with e | ⟨e, e'⟩
    · rw [e]; exact h.station
    · rcases h.station with g | ⟨g, -⟩
      · exact .inr ⟨g ▸ e, e'⟩
      · exact .inr ⟨g, e'⟩
  records := fun m => k.records (h.records m)
  retention := fun m => k.retention fun c => ⟨h.retention m c, by rw [h.chans]; exact (m c).2⟩

theorem Path.active (h : Path P lawful s t) : t.active = s.active := by
  induction h with
  | refl => rfl
  | tail _ m ih =>
    rcases m with ⟨m, -⟩ | ⟨ph, v, -, m⟩
    · exact m.active.trans ih
    · exact .trans (by rw [State.active, boot_of_still m.still]; rfl) ih

theorem Path.sameFire (h : Path P lawful s t) (hp : ¬ P .records) : SameFire s t := by
  induction h with
  | refl => exact fun _ => rfl
  | tail _ m ih =>
    rcases m with ⟨-, m, -⟩ | ⟨ph, v, -, m⟩
    · exact fun v => ((m.resolve_right hp) v).trans (ih v)
    · exact fun v => .trans (by rw [demand_of_still m.still]) (ih v)

theorem Path.retention (h : Path P lawful s t) (hp : ¬ P .retain) : t.retention = s.retention := by
  induction h with
  | refl => rfl
  | tail _ m ih =>
    rcases m with ⟨-, -, m⟩ | ⟨ph, v, -, m⟩
    · exact (m.resolve_right hp).trans ih
    · exact (retention_of_still m.still).trans ih

/-- An operation for each of the eight is a path where each is. -/
theorem forEight_path (f : State → Fin 8 → State) (hf : ∀ u v, Obeys lawful u → Path P lawful u (f u v))
    (h : Obeys lawful s) : Path P lawful s (forEight f s) := by
  have fold : ∀ (l : List (Fin 8)) (u : State), Obeys lawful u → Path P lawful u (l.foldl f u) := by
    intro l
    induction l with
    | nil => exact fun _ _ => .refl
    | cons v l ih => exact fun u hu => (hf u v hu).trans (ih _ ((hf u v hu).obeys hu))
  exact fold eight s h

/-! ### The queue (R78, R149) -/

theorem drawLost_path (q : Queued) (hp : P ph) (h : Obeys lawful s) : Path P lawful s (drawLost q s) := by
  unfold drawLost
  split
  · next a ha =>
    split
    · exact (returnStart_moves (ph := ph) fun l => (h l).2.2.2 a ha).path hp
    · exact .refl
  · exact .refl

theorem updLine_aside (s : State) (f : Line → Line) : Aside s (s.updLine f) := .of_plant rfl

theorem offer_path (f : Frame) (ann : Option Nat) (hp : P ph) (h : Obeys lawful s) : Path P lawful s (offer f ann s) := by
  unfold offer
  split
  · exact .refl
  · exact (updLine_aside s _).path
  · exact (updLine_aside s _).path
  · exact (updLine_aside s _).path.trans (drawLost_path _ hp fun l => (updLine_aside s _).driveLaw (h l))

end Sys2Proof.Machine
end

section
/-! SUPPORT. The completion of an event, part by part, as a sequence of moves (Settle.lean). -/

namespace Sys2Proof.Machine

open Relation

variable {ph : Phase} {lawful : Prop} {P Q : Phase → Prop} {v : VentId} {s t u : State}

/-! ### Records and the balance -/

theorem withArea_aside (s : State) (a : Area) : Aside s (s.withArea a) := .of_plant rfl

theorem withArea_path (s : State) (a : Area) : Path P lawful s (s.withArea a) := (withArea_aside s a).path

theorem patternTarget_le (s : State) (v : VentId) : s.patternTarget v ≤ 1000 := by
  unfold State.patternTarget
  repeat' split
  all_goals decide

theorem patternRecord_inTravel (s : State) (v : VentId) : recordInTravel (s.patternRecord v) := by
  unfold State.patternRecord
  split
  · rintro x ⟨⟩ y ⟨⟩; exact patternTarget_le s v
  · nofun

theorem writePattern_aside (s : State) : Aside s (writePattern s) :=
  .of_records (fun k v => by
    obtain ⟨h1, -, h3, h4, h5⟩ := k v
    have hp := patternRecord_inTravel s v
    simpa [writePattern, State.withDemand] using ⟨h1, hp, h3, h4, h5⟩) rfl

theorem writeWeatherRecords_aside (s : State) : Aside s (writeWeatherRecords s) :=
  .of_records (fun k v => by
    obtain ⟨h1, h2, -, h4, h5⟩ := k v
    have hp : recordInTravel
        (if s.weatherCloses v then some { target := .pos 0, origin := .weather, expiry := none } else none) := by
      split
      · rintro x ⟨⟩ y ⟨⟩; decide
      · nofun
    simpa [writeWeatherRecords, State.withDemand] using ⟨h1, h2, hp, h4, h5⟩) rfl

theorem syncPattern_path (before s : State) (hr : P .records) : Path P lawful s (syncPattern before s) := by
  unfold syncPattern; split
  · exact .refl
  · exact (writePattern_aside s).records_path hr

theorem syncRecords_path (before s : State) (hr : P .records) : Path P lawful s (syncRecords before s) := by
  have h1 : Path P lawful s (syncBalance before s) := by
    unfold syncBalance; repeat' split
    all_goals first | exact .refl | exact withArea_path s _
  have h2 : ∀ u : State, Path P lawful u (syncWeatherRecords before u) := fun u => by
    unfold syncWeatherRecords; split
    · exact .refl
    · exact (writeWeatherRecords_aside u).records_path hr
  exact (h1.trans ((withArea_path _ _).trans (syncPattern_path before _ hr))).trans (h2 _)

/-! ### Demands handed on (R24, R36, R59) -/

theorem handOn_path (who : VentId → Bool) (before : State) (hp : P .settle) (h : Obeys lawful s) :
    Path P lawful s (handOn who before s) := by
  refine forEight_path _ (fun u v hu => ?_) h
  split
  · exact (handOnVent_moves hu).path hp
  · exact .refl

theorem evaluateReleased_path (who : VentId → Bool) (before : State) (hp : P ph) (h : Obeys lawful s) :
    Path P lawful s (evaluateReleased who before s) := by
  refine forEight_path _ (fun u v hu => ?_) h
  split
  · next k =>
    have hi : u.vents[v.val].state = .idle := by simpa using (Bool.and_eq_true_iff.1 k).2
    exact (evaluate_move (ph := ph) (.of_idle hi fun l => (hu l).start_ne (by rw [hi]; decide))).path hp
  · exact .refl

theorem settleDemands_path (who : VentId → Bool) (before : State) (hp : P .settle) (h : Obeys lawful s) :
    Path P lawful s (settleDemands who before s) :=
  (handOn_path who before hp h).trans (evaluateReleased_path who before hp ((handOn_path who before hp h).obeys h))

theorem align_path (before : State) (hp : P .settle) (hr : P .records) (h : Obeys lawful s) :
    Path P lawful s (align before s) :=
  (syncRecords_path before s hr).trans (settleDemands_path _ before hp ((syncRecords_path before s hr).obeys h))

theorem rebalance_path (w : Bool) (before : State) (hp : P .settle) (hr : P .records) (h : Obeys lawful s) :
    Path P lawful s (rebalance w before s) := by
  unfold rebalance recompute
  split
  · split
    · exact .refl
    · next z hz =>
      have h1 : Path P lawful s (syncPattern s (allocate z s)) :=
        (withArea_path s _).trans (syncPattern_path s _ hr)
      exact (h1.trans (settleDemands_path everyVent before hp (h1.obeys h))).trans (withArea_path _ _)
  · exact settleDemands_path everyVent before hp h

/-! ### The pre-check (R70, R71) -/

theorem head_waits {s : State} {v : VentId} (h : s.head = some v) :
    s.used v = true ∧ s.vents[v.val].state = .waitSupply := by
  have key : ∀ (l : List VentId) (b : Option VentId), (∀ x, b = some x → s.waits x = true) → (∀ x ∈ l, s.waits x = true) →
      ∀ x, l.foldl (fun best v =>
        match best with
        | none => some v
        | some b => if s.ranksBefore v b then some v else some b) b = some x → s.waits x = true := by
    intro l
    induction l with
    | nil => exact fun b hb _ => hb
    | cons a l ih =>
      intro b hb hl x hx
      refine ih _ (fun y hy => ?_) (fun y hy => hl y (by simp [hy])) x hx
      rcases b with _ | b
      · cases hy; exact hl _ (by simp)
      · simp only at hy
        split at hy
        · cases hy; exact hl _ (by simp)
        · exact hb y hy
  have hw := key _ none nofun (fun x hx => by
    obtain ⟨-, k⟩ := List.mem_filter.1 hx
    exact (Bool.and_eq_true_iff.1 k).1) v h
  simpa [State.waits] using hw

theorem serve_path (n : Nat) (hp : P .serve) : ∀ s : State, Path P lawful s (serve n s) := by
  induction n with
  | zero => exact fun _ => .refl
  | succ n ih =>
    intro s
    unfold serve
    split
    swap
    · exact .refl
    next hr =>
    have hr : s.inRun = true := (Bool.and_eq_true_iff.1 hr).1
    split
    · exact .refl
    next v hv =>
    have hw := (head_waits hv).2
    split
    · next hl =>
      split
      · exact ((giveStart_moves fun _ => ⟨hr, .inr ⟨rfl, hw, hl⟩⟩).path hp).trans (ih _)
      · exact .refl
    · split
      · exact (Move.announce (lawful := lawful) s rfl hr hw).path hp
      · exact .refl

theorem schedule_path (before : State) (hp : P .serve) (s : State) : Path P lawful s (schedule before s) := by
  unfold schedule; split
  · exact serve_path 9 hp s
  · exact .refl

/-! ### Frames (R73, R74, R103, R115, R151) -/

theorem updSupply_aside (s : State) (f : Supply → Supply) (h : (f s.supply).start = s.supply.start) : Aside s (s.updSupply f) :=
  .of_eq rfl rfl h rfl rfl (.inl rfl) rfl rfl

theorem offerDraw_path (hp : P ph) (h : Obeys lawful s) : Path P lawful s (offerDraw s) := by
  unfold offerDraw
  simp only
  split
  · exact (offer_path _ _ hp h).trans (updSupply_aside _ _ rfl).path
  · split
    · next a ha =>
      split
      · exact .refl
      · exact (returnStart_moves (ph := ph) fun l => (h l).2.2.2 a ha).path hp
    · exact .refl

theorem sendFrames_path (c : Causes) (before : State) (r : Bool) (hp : P ph) (h : Obeys lawful s) :
    Path P lawful s (sendFrames c before r s) := by
  have h1 : Path P lawful s (sendDraw before s) := by
    unfold sendDraw; split
    · exact offerDraw_path hp h
    · exact .refl
  have h2 : ∀ u, Obeys lawful u → Path P lawful u (sendStatus c before u) := fun u hu => by
    unfold sendStatus; split
    · exact offer_path _ _ hp hu
    · exact .refl
  have h3 : ∀ u, Obeys lawful u → Path P lawful u (sendArea c r u) := fun u hu => by
    unfold sendArea
    simp only
    repeat' split
    all_goals first | exact .refl | exact (offer_path _ _ hp hu).trans (withArea_path _ _)
  have h4 : ∀ u, Obeys lawful u → Path P lawful u (sendWeather c before u) := fun u hu => by
    unfold sendWeather; split
    · exact offer_path _ _ hp hu
    · exact .refl
  have h5 : ∀ u : State, Path P lawful u (tryRecovery c u) := fun u => by
    unfold tryRecovery; repeat' split
    all_goals first | exact .refl | exact (updLine_aside u _).path
  have o1 := h1.obeys h
  have o2 := (h2 _ o1).obeys o1
  have o3 := (h3 _ o2).obeys o2
  exact (((h1.trans (h2 _ o1)).trans (h3 _ o2)).trans (h4 _ o3)).trans (h5 _)

/-! ### The retention memory (R61) -/

/-- R61: a channel's entry takes its estimate where the vent is in IDLE, and else becomes UNKNOWN. -/
def retainChan (v : VentId) (s : State) (c : ChanId) : State :=
  s.withRetention (s.retention.set c (if s.vents[v].state = .idle then s.chans[c].estimate else none))

/-- R61: the entries of a vent that has changed its state are written. -/
def retainVent (before s : State) (v : VentId) : State :=
  if s.vents[v].state = before.vents[v].state then s else forChannels v (retainChan v) s

theorem writeRetention_eq (before s : State) : writeRetention before s = forEight (retainVent before) s := rfl

/-- Every retained position of t is one of s, an estimate of s, or UNKNOWN; nothing else differs. -/
structure RetainsFrom (s t : State) : Prop where
  rest : t = s.withRetention t.retention
  entry : ∀ c : ChanId, t.retention[c.val] = s.retention[c.val] ∨ t.retention[c.val] = s.chans[c.val].estimate ∨
    t.retention[c.val] = none

theorem RetainsFrom.chan (h : RetainsFrom s u) (v : VentId) (c : ChanId) : RetainsFrom s (retainChan v u c) := by
  obtain ⟨h1, h2⟩ := h
  have hc : u.chans = s.chans := by rw [h1]; rfl
  refine ⟨by rw [h1]; rfl, fun e => ?_⟩
  simp only [retainChan, State.withRetention_retention, Vector.getElem_set]
  split
  · next k =>
    obtain rfl : c = e := Fin.ext k
    split
    · rw [hc]; exact .inr (.inl rfl)
    · exact .inr (.inr rfl)
  · exact h2 e

theorem RetainsFrom.foldl {α : Type} (f : State → α → State) (hf : ∀ u a, RetainsFrom s u → RetainsFrom s (f u a)) (l : List α) :
    ∀ u, RetainsFrom s u → RetainsFrom s (l.foldl f u) := by
  induction l with
  | nil => exact fun _ h => h
  | cons a l ih => exact fun u h => ih _ (hf u a h)

theorem writeRetention_retains (before s : State) : RetainsFrom s (writeRetention before s) := by
  refine RetainsFrom.foldl (retainVent before) (fun u v h => ?_) eight s ⟨rfl, fun c => .inl rfl⟩
  unfold retainVent
  split
  · exact h
  · exact RetainsFrom.foldl (retainChan v) (fun u c h => h.chan v c) _ u h

theorem writeRetention_aside (before s : State) : Aside s (writeRetention before s) := by
  obtain ⟨h1, h2⟩ := writeRetention_retains before s
  generalize writeRetention before s = t at *
  refine ⟨?_, ?_, ?_, ?_, ?_, .inl ?_, fun k => ?_, fun k c => ?_⟩
  any_goals rw [h1]; rfl
  · rw [h1]; exact k
  · rcases h2 c with e | e | e <;> rw [e]
    · exact (k c).1
    · exact (k c).2
    · nofun

/-! ### The whole event -/

/-- A move of the blocks' own decisions and of the frames, before the retention memory is written. -/
def Phase.decides : Phase → Prop
  | .records | .settle | .serve => True
  | .verdict | .effect | .retain => False

theorem Phase.decides_completes (ph : Phase) (h : ph.decides) : ph.completes := by cases ph <;> trivial

/-- The first recompute of an event, or its absence (log entry 7). -/
def balanced (c : Causes) (before s : State) : State :=
  rebalance (balanceDue c before s (align before s)) before (align before s)

/-- The first recompute and pre-check of an event. -/
def firstPass (c : Causes) (before s : State) : State := schedule before (balanced c before s)

/-- The second recompute and pre-check, for what the first ones changed. -/
def secondPass (c : Causes) (before s : State) : State :=
  schedule (firstPass c before s)
    (rebalance (recomputeDue (align before s) (firstPass c before s)) (firstPass c before s) (firstPass c before s))

theorem decideStarts_fst (c : Causes) (before s : State) : (decideStarts c before s).1 = secondPass c before s := by
  simp only [decideStarts, secondPass, firstPass, balanced]

/-- The state an event leaves but for the retention memory and the outputs. -/
def decided (c : Causes) (before s : State) : State :=
  let d := decideStarts c before s
  sendFrames c before d.2 d.1

theorem finish_eq (c : Causes) (before s : State) :
    finish c before s = syncOutputs before (writeRetention before (decided c before s)) := by
  unfold finish decided
  rfl

theorem balanced_path (c : Causes) (before : State) (hp : P .settle) (hr : P .records) (h : Obeys lawful s) :
    Path P lawful s (balanced c before s) :=
  (align_path before hp hr h).trans (rebalance_path _ before hp hr ((align_path before hp hr h).obeys h))

theorem firstPass_path (c : Causes) (before : State) (h : Obeys lawful s) :
    Path Phase.decides lawful s (firstPass c before s) :=
  (balanced_path c before trivial trivial h).trans (schedule_path before trivial _)

theorem secondPass_path (c : Causes) (before : State) (h : Obeys lawful s) :
    Path Phase.decides lawful s (secondPass c before s) := by
  have h1 := firstPass_path c before h
  have h2 := rebalance_path (P := Phase.decides)
    (recomputeDue (align before s) (firstPass c before s)) (firstPass c before s) trivial trivial (h1.obeys h)
  exact (h1.trans h2).trans (schedule_path _ trivial _)

theorem decided_path (c : Causes) (before : State) (h : Obeys lawful s) :
    Path Phase.decides lawful s (decided c before s) := by
  have h1 := secondPass_path c before h
  unfold decided
  simp only [decideStarts_fst]
  exact h1.trans (sendFrames_path (ph := .settle) c before _ trivial (h1.obeys h))

theorem syncOutputs_aside (before s : State) : Aside s (syncOutputs before s) := by
  unfold syncOutputs; split <;> exact .of_plant rfl

theorem finish_path (c : Causes) (before : State) (h : Obeys lawful s) :
    Path Phase.completes lawful s (finish c before s) := by
  rw [finish_eq]
  exact (((decided_path c before h).mono Phase.decides_completes).trans
    ((writeRetention_aside before _).retain_path trivial trivial)).trans
      ((syncOutputs_aside before _).retain_path trivial trivial)

end Sys2Proof.Machine
end

section
/-! SUPPORT. The commands' own effects as sequences of moves, and with them every command outside start-up (`exec_path`). -/

namespace Sys2Proof.Machine

open Relation

variable {ph : Phase} {lawful : Prop} {P Q : Phase → Prop} {v : VentId} {s t u : State}

/-- A move of a command's own effect. -/
def Phase.acts (ph : Phase) : Prop := ph = .effect

/-- A move of the passage to RUN: demands are handed on in the effect itself. -/
def Phase.passes (ph : Phase) : Prop := ph = .effect ∨ ph = .settle

/-- Any move but a verdict. -/
def Phase.plain (ph : Phase) : Prop := ph ≠ .verdict

theorem Phase.acts_plain (ph : Phase) (h : ph.acts) : ph.plain := by rw [show ph = .effect from h]; exact nofun
theorem Phase.passes_plain (ph : Phase) (h : ph.passes) : ph.plain := by rcases h with rfl | rfl <;> exact nofun
theorem Phase.completes_plain (ph : Phase) (h : ph.completes) : ph.plain := by rintro rfl; exact h

/-! ### Acts of the other blocks -/

theorem aside_of_plant (h : t.plant = s.plant) : Path P lawful s t :=
  (Aside.of_plant h).path (fun v => by rw [show t.demand = s.demand from (congrArg State.demand h :)])
    (congrArg State.retention h :)

theorem judgeAll_plant (b : Bool) (s : State) : (judgeAll b s).plant = s.plant := rfl
theorem fireBegan_plant (b : Bool) (before s : State) : (fireBegan b before s).plant = s.plant := by
  unfold fireBegan; split <;> rfl
theorem reformWeather_plant (s : State) : (reformWeather s).plant = s.plant := by
  unfold reformWeather syncVerdicts; split <;> rfl
theorem hear_plant (q : Nat) (s : State) : (hear q s).plant = s.plant := rfl
theorem noteClash_plant (n : StationNode) (s : State) : (noteClash n s).plant = s.plant := by
  unfold noteClash; split <;> rfl
theorem refreshPeer_plant (n : StationNode) (f : Peer → Peer) (s : State) : (refreshPeer n f s).plant = s.plant := by
  unfold refreshPeer; split <;> rfl
theorem heardFrom_plant (n : StationNode) (f : Peer → Peer) (s : State) : (heardFrom n f s).plant = s.plant := by
  unfold heardFrom
  simp only
  split <;> simp only [reformWeather_plant, refreshPeer_plant, noteClash_plant]
theorem heardWeather_plant (n : StationNode) (c : WeatherContent) (s : State) : (heardWeather n c s).plant = s.plant := by
  unfold heardWeather
  simp only
  split <;> simp only [reformWeather_plant, refreshPeer_plant, noteClash_plant]
theorem evaluateWind_plant (s : State) : (evaluateWind s).plant = s.plant := by
  unfold evaluateWind
  simp only
  split_ifs <;> rfl
theorem takePulse_plant (s : State) : (takePulse s).plant = s.plant := by
  unfold takePulse
  split
  · rfl
  · split_ifs
    · rfl
    · exact evaluateWind_plant _
    · exact evaluateWind_plant _
theorem takeVane_plant (r : Nat) (s : State) : (takeVane r s).plant = s.plant := by unfold takeVane; split <;> rfl
theorem endWindHold_plant (s : State) : (endWindHold s).plant = s.plant := by
  unfold endWindHold; simp only; split <;> rfl
theorem sourceSide_plant (f : State → State) (hf : ∀ s, (f s).plant = s.plant) (s : State) :
    (sourceSide f s).plant = s.plant := by
  unfold sourceSide syncOwnWeather
  split
  · exact hf s
  · rw [reformWeather_plant, hf]
theorem pinMeans_plant (k : TermId) (b : Bool) (s : State) : (pinMeans k b s).plant = s.plant := by
  unfold pinMeans; split_ifs <;> rfl
theorem movePin_plant (k : TermId) (b : Bool) (s : State) : (movePin k b s).plant = s.plant := by
  unfold movePin
  split_ifs
  · rfl
  · exact pinMeans_plant k b _
  · rfl

/-! ### Records (R25 to R34) -/

theorem updRecords_aside (s : State) (v : VentId) (f : Records → Records) (h : ∀ r, r.inTravel → (f r).inTravel) :
    Aside s (s.updRecords v f) :=
  .of_records (fun k w => by
    by_cases hw : w = v
    · subst hw; rw [updRecords_same]; exact h _ (k w)
    · rw [updRecords_other s hw]; exact k w) rfl

theorem updRecords_sameFire (s : State) (v : VentId) (f : Records → Records) (h : ∀ r, (f r).fire = r.fire) :
    SameFire s (s.updRecords v f) := fun w => by
  by_cases hw : w = v
  · subst hw; rw [updRecords_same]; exact h _
  · rw [updRecords_other s hw]

theorem recordInTravel_none : recordInTravel none := nofun

theorem recordInTravel_pos {p : Nat} (h : p ≤ 1000) (o : Origin) (e : Option Micros) :
    recordInTravel (some { target := .pos p, origin := o, expiry := e }) := by
  rintro x ⟨⟩ y ⟨⟩; exact h

theorem unlock_move (h : Obeys lawful s) : Moves .effect lawful v s (s.updVent v Vent.unlock) := by
  by_cases hl : s.vents[v.val].state = .locked
  · refine .single (.rest s _ ⟨fun _ => .inl (by rw [hl]; rfl), fun l => (h l).start_ne (by rw [hl]; decide),
      fun _ => by rw [hl]; decide, fun _ _ => rfl⟩ ?_)
    rw [Vent.unlock, if_pos hl]
    exact ⟨⟨rfl, nofun⟩, ⟨rfl, rfl, rfl, rfl⟩, .inr ⟨rfl, fun _ => by rw [hl]; rfl⟩, nofun, fun k => k.elim, fun k => k.elim⟩
  · rw [updVent_self s v Vent.unlock (if_neg hl)]

theorem brigadeArrival_path (a : Action) (o : Origin) (h : Obeys lawful s) :
    Path Phase.acts lawful s (brigadeArrival a o s v) := by
  unfold brigadeArrival
  simp only
  split
  · have m := updRecords_aside s v (fun r => { r with brigade := a.target.map fun t =>
        { target := t, origin := o, expiry := none } }) fun r ⟨_, h2, h3, h4, h5⟩ => by
      refine ⟨?_, h2, h3, h4, h5⟩
      cases a
      · exact recordInTravel_pos (by decide) o none
      · exact recordInTravel_pos (by decide) o none
      · rintro x ⟨⟩; nofun
      · nofun
    have k := updRecords_sameFire s v (fun r => { r with brigade := a.target.map fun t =>
        { target := t, origin := o, expiry := none } }) fun _ => rfl
    split
    · exact (m.path k).trans ((unlock_move fun l => m.driveLaw (h l)).path rfl)
    · exact m.path k
  · exact .refl

theorem applyOverride_path (a : Action) (sc : Scope) (h : Obeys lawful s) :
    Path Phase.acts lawful s (applyOverride a sc s) := by
  refine forEight_path _ (fun u v hu => ?_) h
  split
  · exact brigadeArrival_path a .panel hu
  · exact .refl

theorem applyKey_path (k : KeyPos) (h : Obeys lawful s) : Path Phase.acts lawful s (applyKey k s) := by
  have removes : Path Phase.acts lawful s (forEight removeKeyRecord s) := by
    refine forEight_path _ (fun u v _ => (updRecords_aside u v _ fun r hr => ?_).path
      (updRecords_sameFire u v _ fun r => by split <;> [split; skip] <;> rfl)) h
    split
    · split
      · exact ⟨nofun, hr.2⟩
      · exact hr
    · exact hr
  unfold applyKey
  split
  · exact forEight_path _ (fun u v hu => brigadeArrival_path _ _ hu) h
  · exact forEight_path _ (fun u v hu => brigadeArrival_path _ _ hu) h
  · exact removes
  · exact removes

theorem manualPress_path (o : Bool) (m : VentSet) (k : TermId) (h : Obeys lawful s) :
    Path Phase.acts lawful s (manualPress o m k s) := by
  unfold manualPress writeManual
  split
  · exact .refl
  · refine forEight_path _ (fun u v _ => ?_) h
    split
    · refine (updRecords_aside u v (fun r => { r with manual := some (manualRecord u _ k) })
        fun r ⟨h1, h2, h3, _, h5⟩ => ⟨h1, h2, h3, ?_, h5⟩).path (updRecords_sameFire u v _ fun _ => rfl)
      exact recordInTravel_pos (by split <;> decide) _ _
    · exact .refl

theorem applyComfort_path (z : ZoneSet) (x y : Nat) (h : Obeys lawful s) :
    Path Phase.acts lawful s (applyComfort z x y s) := by
  unfold applyComfort
  split
  · exact .refl
  · refine forEight_path _ (fun u v _ => ?_) h
    split
    · refine (updRecords_aside u v (fun r => { r with comfort := some (comfortRecord u x y) })
        fun r ⟨h1, h2, h3, h4, _⟩ => ⟨h1, h2, h3, h4, ?_⟩).path (updRecords_sameFire u v _ fun _ => rfl)
      exact recordInTravel_pos (clamp_mem (by decide) x).2 _ _
    · exact .refl

theorem loseMains_path (h : Obeys lawful s) : Path Phase.acts lawful s (loseMains s) := by
  have m : Aside s (s.withMains { s.mains with battery := true, loss := none }) := .of_plant rfl
  refine m.path.trans (forEight_path _ (fun u v _ => (updRecords_aside u v (fun r =>
    { r with manual := none, comfort := none }) fun r ⟨h1, h2, h3, _, _⟩ => ?_).path
      (updRecords_sameFire u v _ fun _ => rfl)) fun l => m.driveLaw (h l))
  exact ⟨h1, h2, h3, recordInTravel_none, recordInTravel_none⟩

theorem expire_inTravel (c : TimedClass) (r : Records) (h : r.inTravel) : (r.expire c).inTravel := by
  obtain ⟨h1, h2, h3, h4, h5⟩ := h
  cases c
  · exact ⟨h1, h2, h3, recordInTravel_none, h5⟩
  · exact ⟨h1, h2, h3, h4, recordInTravel_none⟩

/-! ### Epochs and alarms (R3 to R15) -/

theorem List.foldl_path {α : Type} (f : State → α → State) (hf : ∀ u a, Obeys lawful u → Path P lawful u (f u a)) (l : List α) :
    ∀ u, Obeys lawful u → Path P lawful u (l.foldl f u) := by
  induction l with
  | nil => exact fun _ _ => .refl
  | cons a l ih => exact fun u hu => (hf u a hu).trans (ih _ ((hf u a hu).obeys hu))

theorem withFire_aside (s : State) (x : Fire) : Aside s (s.withFire x) := .of_plant rfl

theorem localAlarm_path (z : Zone) (h : Obeys lawful s) : Path Phase.acts lawful s (localAlarm z s) := by
  unfold localAlarm
  simp only
  have m := withFire_aside s { s.fire with zones := s.fire.zones ||| only z }
  split
  · exact .refl
  · split
    · exact m.path.trans (offer_path (ph := .effect) _ _ rfl fun l => m.driveLaw (h l))
    · exact m.path

theorem raiseAlarm_path (z : Zone) (h : Obeys lawful s) : Path Phase.acts lawful s (raiseAlarm z s) :=
  (localAlarm_path z h).trans (aside_of_plant (fireBegan_plant _ _ _))

theorem callPointAlarm_path (k : TermId) (h : Obeys lawful s) : Path Phase.acts lawful s (callPointAlarm s k) := by
  unfold callPointAlarm
  split
  · split
    · exact localAlarm_path _ h
    · exact .refl
  · exact .refl

/-- R12: the items of a vent as a newer epoch releases it. -/
def Vent.release (x : Vent) : Vent := { x.unlock with retries := 0 }

theorem release_moves (h : Obeys lawful s) : Moves .effect lawful v s (s.updVent v Vent.release) := by
  have m1 := unlock_move (v := v) h
  have m2 : Move .effect lawful v (s.updVent v Vent.unlock) ((s.updVent v Vent.unlock).updVent v fun x =>
      { x with retries := 0 }) :=
    .note _ _ ⟨rfl, ⟨rfl, rfl, rfl, rfl⟩, .inl rfl, .inr (.inl ⟨rfl, .inl rfl⟩), fun k => k.elim⟩
  have := ReflTransGen.tail m1 m2
  rwa [updVent_updVent] at this

/-- Changing every vent at once is changing one after the other. -/
theorem forEight_updVent (f : Vent → Vent) (s : State) :
    forEight (fun s v => s.updVent v f) s = s.withVents (Vector.ofFn fun v : Fin 8 => f s.vents[v]) := by
  have fold : ∀ (l : List VentId), l.Nodup → ∀ s : State,
      l.foldl (fun s v => s.updVent v f) s =
        s.withVents (Vector.ofFn fun v : Fin 8 => if v ∈ l then f s.vents[v] else s.vents[v]) := by
    intro l hl
    induction l with
    | nil =>
      intro s
      simp [State.withVents]
    | cons a l ih =>
      obtain ⟨ha, hl⟩ := List.nodup_cons.1 hl
      intro s
      rw [List.foldl_cons, ih hl]
      simp only [State.updVent, State.withVents]
      congr 1
      ext1 i hi
      simp only [Vector.getElem_ofFn, Fin.getElem_fin, Vector.getElem_set, List.mem_cons, Fin.ext_iff]
      by_cases k : a.val = i
      · subst k
        rw [if_neg (by rwa [Fin.eta]), if_pos rfl, if_pos (.inl rfl)]
      · simp [k, Ne.symm k]
  have all : ∀ v : VentId, v ∈ eight := by decide
  have := fold eight (by decide) s
  simp only [all, if_true] at this
  exact this

theorem releaseVents_path (h : Obeys lawful s) : Path Phase.acts lawful s (releaseVents s) := by
  have e : releaseVents s = forEight (fun s v => s.updVent v Vent.release) s := (forEight_updVent Vent.release s).symm
  rw [e]
  exact forEight_path _ (fun u v hu => (release_moves hu).path rfl) h

theorem applyNewer_path (e : Epoch) (z : ZoneSet) (h : Obeys lawful s) : Path Phase.acts lawful s (applyNewer e z s) := by
  unfold applyNewer
  simp only
  have m1 := (withFire_aside s { zones := z, epoch := e, known := true }).path (P := Phase.acts) (lawful := lawful)
  have m2 := m1.trans (releaseVents_path (Path.obeys m1 h))
  have m3 : Path Phase.acts lawful s ((cycleLoops (releaseVents
      (s.withFire { zones := z, epoch := e, known := true }))).withArea Area.reset) := m2.trans (aside_of_plant rfl)
  exact (m3.trans (List.foldl_path callPointAlarm (fun u k hu => callPointAlarm_path k hu) six _ (Path.obeys m3 h))).trans
    (aside_of_plant (fireBegan_plant _ _ _))

theorem takeEpoch_path (e : Epoch) (z : ZoneSet) (h : Obeys lawful s) : Path Phase.acts lawful s (takeEpoch e z s) := by
  unfold takeEpoch
  split_ifs
  · exact aside_of_plant (fireBegan_plant _ _ _)
  · exact aside_of_plant (fireBegan_plant _ _ _)
  · exact applyNewer_path e z h
  · exact .refl

theorem resetPress_path (h : Obeys lawful s) : Path Phase.acts lawful s (resetPress s) := by
  unfold resetPress
  split
  · have m := applyNewer_path (s.fire.epoch + 1) 0 h
    exact m.trans (offer_path (ph := .effect) _ _ rfl (m.obeys h))
  · exact .refl

theorem debounceEnds_path (k : TermId) (h : Obeys lawful s) : Path Phase.acts lawful s (debounceEnds k s) := by
  have m : Aside s (takeLevel k s) := .of_plant rfl
  have o : Obeys lawful (takeLevel k s) := fun l => m.driveLaw (h l)
  unfold debounceEnds deliver
  refine m.path.trans ?_
  simp only
  generalize takeLevel k s = u at *
  have key : Path Phase.acts lawful u (syncKey s u) := by
    unfold syncKey; split
    · exact .refl
    · exact applyKey_path _ o
  split
  · split
    · exact raiseAlarm_path _ o
    · exact .refl
  · exact key
  · exact key
  · split
    · exact manualPress_path _ _ _ o
    · exact .refl
  · split
    · exact manualPress_path _ _ _ o
    · exact .refl
  · split
    · exact resetPress_path o
    · exact .refl
  all_goals exact .refl

theorem confirmLoop_path (k : TermId) (h : Obeys lawful s) : Path Phase.acts lawful s (confirmLoop k s) := by
  unfold confirmLoop
  have m : Aside s (s.updTerm k fun x => { x with loop := .confirmed, confirm := none }) := .of_plant rfl
  simp only
  split
  · exact m.path.trans (raiseAlarm_path _ fun l => m.driveLaw (h l))
  · exact m.path

/-! ### The vent line (R75, R80, R144 to R146) -/

theorem degradeStart_path (h : Obeys lawful s) : Path Phase.acts lawful s (degradeStart s) := by
  unfold degradeStart
  split
  · exact .refl
  · next a ha =>
    have ann : lawful → s.vents[a.vent.val].state = .announced := fun l => (h l).2.2.2 a ha
    have run : lawful → s.inRun = true := fun l => by
      by_contra k
      have := ((h l).2.2.1 (by simpa [State.inRun] using k)).2
      rw [ha] at this; cases this
    split
    · exact (giveStart_moves fun l => ⟨run l, .inl ⟨rfl, ann l⟩⟩).path rfl
    · exact (returnStart_moves ann).path rfl

theorem updLine_degrade_path (f : Line → Line) (h : Obeys lawful s) :
    Path Phase.acts lawful s (degradeStart (s.updLine f)) :=
  (updLine_aside s f).path.trans (degradeStart_path fun l => (updLine_aside s f).driveLaw (h l))

theorem dropFrame_path (q : Queued) (h : Obeys lawful s) : Path Phase.acts lawful s (dropFrame q s) := by
  have m := (updLine_aside s fun l => l.drop q).path (P := Phase.acts) (lawful := lawful)
  have m2 := m.trans (drawLost_path (ph := .effect) q rfl (Path.obeys m h))
  unfold dropFrame
  simp only
  split
  · exact m2.trans (updLine_degrade_path _ (Path.obeys m2 h))
  · exact m2

theorem bitError_path (h : Obeys lawful s) : Path Phase.acts lawful s (bitError s) := by
  unfold bitError
  split
  · exact (updLine_aside s _).path
  · split
    · split
      · exact (updLine_aside s _).path
      · exact dropFrame_path _ h
    · exact .refl

theorem frameSent_path (h : Obeys lawful s) (hr : s.inRun = true) : Path Phase.acts lawful s (frameSent s) := by
  unfold frameSent
  split
  swap
  · exact .refl
  next q _ =>
  have m := updLine_aside s fun l => ({ l.leave with failures := 0, ownLast := true }).reported q.frame
  simp only
  split
  swap
  · exact m.path
  next v hv =>
  refine m.path.trans (Moves.path (P := Phase.acts) (commit_moves (s := s.updLine _) fun l => ⟨hr, ?_⟩) rfl)
  unfold Supply.announcedBy at hv
  split at hv
  · next a ha =>
    split at hv
    · cases hv; exact (h l).2.2.2 a ha
    · cases hv
  · cases hv

theorem stuckLine_path (h : Obeys lawful s) : Path Phase.acts lawful s (stuckLine s) := by
  unfold stuckLine
  split
  · exact updLine_degrade_path _ h
  · exact updLine_degrade_path _ h
  · exact (updLine_aside s _).path
  · exact .refl

/-! ### The passage to RUN (R7, R24, R174) -/

/-- R7, R174: the station in RUN, before the effective demands are handed on. -/
def joined (s : State) : State :=
  startHeartbeat (endOfJoinAlarms (s.withBoot { s.boot with station := .run, joinEnds := none }))

theorem enterRun_eq (s : State) : enterRun s = handOnAll (joined s) := rfl

theorem joined_path (hj : s.boot.station = .join) (hp : P ph) (h : Obeys lawful s) : Path P lawful s (joined s) := by
  have m1 : Path P lawful s (s.withBoot { s.boot with station := .run, joinEnds := none }) :=
    (Aside.of_eq (s := s) (t := s.withBoot { s.boot with station := .run, joinEnds := none })
      rfl rfl rfl rfl rfl (.inr ⟨hj, rfl⟩) rfl rfl).path
  have m2 : ∀ u, Obeys lawful u → Path P lawful u (endOfJoinAlarms u) := fun u hu => by
    have m : Path P lawful u (if u.fire.known then u else u.withFire { u.fire with epoch := 0, known := true }) := by
      split
      · exact .refl
      · exact (withFire_aside u _).path
    refine m.trans (forEight_path _ (fun w z hw => ?_) (m.obeys hu))
    split
    · exact offer_path _ _ hp hw
    · exact .refl
  have beat : ∀ u : State, Path P lawful u (startHeartbeat u) := fun u => (updLine_aside u _).path
  exact (m1.trans (m2 _ (Path.obeys m1 h))).trans (beat _)

theorem enterRun_path (hj : s.boot.station = .join) (h : Obeys lawful s) : Path Phase.passes lawful s (enterRun s) := by
  have m : Path Phase.passes lawful s (joined s) := joined_path (ph := .effect) hj (.inl rfl) h
  rw [enterRun_eq]
  generalize joined s = y at *
  refine m.trans (forEight_path _ (fun w v hw => ?_) (Path.obeys m h))
  split
  · exact (handOnVent_moves hw).path (.inr rfl)
  · exact .refl

end Sys2Proof.Machine
end

section
/-! SUPPORT. What a command can do to the Drive Unit, said once (`exec_path`): a start-up command, or at most one verdict on a run,
and then a sequence of plain moves. -/

namespace Sys2Proof.Machine

open Relation

variable {lawful : Prop} {v : VentId} {s t u : State} {i : Instr}

/-! ### The Drive Unit's own commands (R44 to R58) -/

theorem owner_mem {c : ChanId} (h : s.owner c = some v) : c ∈ s.channels v := by
  have := List.find?_some h
  simpa using this

theorem driving_eq {c : ChanId} {d : Dir} (h : s.driving c = some (v, d)) :
    c ∈ s.channels v ∧ s.chans[c.val].driven = some d := by
  unfold State.driving at h
  split at h
  · next w e hw he => cases h; exact ⟨owner_mem hw, he⟩
  · cases h

/-- What a verdict makes of a state: an anchored channel, a run timeout, or a dwell that is over. -/
inductive Judged (i : Instr) (s : State) : State → Prop where
  | nothing : Judged i s s
  | anchored (dt : Micros) (c : ChanId) (v : VentId) (d : Dir) (hi : i = .endFilterExpiry dt c ∨ i = .startWindowEnd dt c)
      (hc : c ∈ s.channels v) (hd : s.chans[c.val].driven = some d) : Judged i s (s.updChan c fun x => x.stop (some d.endPos))
  | timeout (dt : Micros) (v : VentId) (hi : i = .runLimitReached dt v) (hr : s.vents[v.val].state.running = true) :
      Judged i s (runTimeout v s)
  | undwell (dt : Micros) (v : VentId) (e : Micros) (hi : i = .dwellExpiry dt v) (hd : s.vents[v.val].state = .dwell)
      (he : s.vents[v.val].dwellEnds = some e) (hn : e ≤ s.now) :
      Judged i s (toIdle v (s.updVent v fun x => { x with lastDir := none }))

theorem Judged.move (h : Judged i s u) : u = s ∨ ∃ v, Move .verdict lawful v s u := by
  cases h with
  | nothing => exact .inl rfl
  | anchored dt c v d hi hc hd => exact .inr ⟨v, .anchored s c d rfl hc hd⟩
  | timeout dt v hi hr => exact .inr ⟨v, .timeout s rfl fun _ => hr⟩
  | undwell dt v e hi hd he hn => exact .inr ⟨v, .undwell s rfl hd⟩

theorem Judged.obeys (h : Judged i s u) (ho : Obeys lawful s) : Obeys lawful u := by
  rcases h.move (lawful := lawful) with rfl | ⟨v, m⟩
  · exact ho
  · exact fun l => m.driveLaw l (ho l)

/-- The state u is what a verdict and then the rest of the command's own effect make of s. -/
def JudgedPath (i : Instr) (P : Phase → Prop) (lawful : Prop) (s t : State) : Prop :=
  ∃ u, Judged i s u ∧ Path P lawful u t

theorem JudgedPath.of_path {P : Phase → Prop} (h : Path P lawful s t) : JudgedPath i P lawful s t := ⟨s, .nothing, h⟩

theorem runs_of_driven (ho : Obeys lawful s) {c : ChanId} {d : Dir} (hc : c ∈ s.channels v)
    (hd : s.chans[c.val].driven = some d) :
    (lawful → s.vents[v.val].state.running = true) ∧ (lawful → ∀ a, s.supply.start = some a → a.vent ≠ v) :=
  ⟨fun l => by rw [(ho l).runs hc hd]; exact running_runState d,
    fun l => (ho l).start_ne (by rw [(ho l).runs hc hd]; cases d <;> decide)⟩

theorem anchor_judged {c : ChanId} {d : Dir} {dt : Micros} (hi : i = .endFilterExpiry dt c ∨ i = .startWindowEnd dt c)
    (hc : c ∈ s.channels v) (hd : s.chans[c.val].driven = some d) (ho : Obeys lawful s) :
    JudgedPath i Phase.acts lawful s (anchor v c d s) := by
  refine ⟨_, .anchored dt c v d hi hc hd, ?_⟩
  obtain ⟨hr, hs⟩ := runs_of_driven ho hc hd
  unfold anchor
  simp only
  split
  · exact .refl
  · next k =>
    rw [Bool.not_eq_true] at k
    exact (anchorRest_moves (s := s.updChan c _) hr (undriven_of_anyDriven k) hs).path rfl

theorem filters_kept (x : Channel) (m : Nat) (now : Micros) :
    (x.filters m now).estimate = x.estimate ∧ (x.filters m now).startPos = x.startPos ∧ (x.filters m now).driven = x.driven :=
  ⟨rfl, rfl, rfl⟩

theorem endWindow_judged {c : ChanId} {d : Dir} {dt : Micros} (hi : i = .startWindowEnd dt c) (hc : c ∈ s.channels v)
    (hd : s.chans[c.val].driven = some d) (ho : Obeys lawful s) :
    JudgedPath i Phase.acts lawful s (endWindow v c d s) := by
  unfold endWindow
  split
  · exact .of_path ((Move.tune s c _ rfl hc ⟨rfl, rfl, rfl⟩).path rfl)
  · split
    · exact anchor_judged (.inr hi) hc hd ho
    · obtain ⟨hr, hs⟩ := runs_of_driven ho hc hd
      exact .of_path ((openCircuit_moves c hr hs).path rfl)

theorem takeReading_path {c : ChanId} {d : Dir} (m : Nat) (hc : c ∈ s.channels v) (hd : s.chans[c.val].driven = some d)
    (ho : Obeys lawful s) : Path Phase.acts lawful s (takeReading v c m s) := by
  unfold takeReading
  split
  · obtain ⟨hr, hs⟩ := runs_of_driven ho hc hd
    exact (short_moves hr hs).path rfl
  · refine (Move.tune s c _ rfl hc ?_).path rfl
    simp only
    split
    · split <;> exact ⟨rfl, rfl, rfl⟩
    · exact ⟨rfl, rfl, rfl⟩

theorem due_isSome {x : Option Micros} {now : Micros} (h : due x now = true) : ∃ e, x = some e ∧ e ≤ now := by
  rcases x with _ | e
  · cases h
  · exact ⟨e, rfl, by simpa using h⟩

theorem reachStop_path (hr : s.stopDue v = true) (ho : Obeys lawful s) : Path Phase.acts lawful s (reachStop v s) := by
  unfold State.stopDue at hr
  simp only [Bool.and_eq_true, Fin.getElem_fin] at hr
  obtain ⟨⟨-, hr⟩, hd⟩ := hr
  obtain ⟨e, he, -⟩ := due_isSome hd
  unfold reachStop
  split
  · next p hp =>
    refine (stopAt_moves (ph := .effect) p hr hp (fun l k c hc => ?_)
      fun l => (ho l).start_ne fun k => by rw [k] at hr; cases hr).path rfl
    obtain ⟨-, -, k3⟩ := k.2.1 v (by rw [Fin.getElem_fin, he]; rfl)
    rw [chanPos_known k]; exact k3 c hc
  · exact .refl

theorem endDwell_judged {dt : Micros} (hi : i = .dwellExpiry dt v) (hd : s.vents[v.val].state = .dwell)
    (hn : due s.vents[v.val].dwellEnds s.now = true) (ho : Obeys lawful s) :
    JudgedPath i Phase.acts lawful s (endDwell v s) := by
  obtain ⟨e, he, hn⟩ := due_isSome hn
  refine ⟨_, .undwell dt v e hi hd he hn, ?_⟩
  unfold endDwell
  rw [← evaluate_toIdle]
  refine (evaluate_move (ph := .effect) (.of_idle (toIdle_state v _) fun l => ?_)).path rfl
  exact (ho l).start_ne (by rw [hd]; decide)

/-! ### Events -/

theorem Obeys.tick (h : Obeys lawful s) (dt : Micros) : Obeys lawful (s.tick dt) := fun l => h l

/-- What a command outside start-up makes of the state in which its time has passed: other blocks' items change, or its own
effect is made and completed. -/
inductive Ended (i : Instr) (lawful : Prop) (s : State) : State → Prop where
  | quiet {t : State} (h : t.plant = s.plant) : Ended i lawful s t
  | finished (c : Causes) {x : State} (h : JudgedPath i Phase.acts lawful s x) : Ended i lawful s (finish c s x)
  | passed (c : Causes) (hj : s.boot.station = .join) : Ended i lawful s (finish c s (enterRun s))

theorem event_judged {dt : Micros} {taken : State → Bool} {c : State → Causes} {f : State → State}
    (h : event dt taken c f s = .next t) (ho : Obeys lawful s)
    (hf : ∀ u, taken u = true → Obeys lawful u → JudgedPath i Phase.acts lawful u (f u)) :
    Ended i lawful (s.tick dt) t := by
  by_cases k : taken (s.tick dt) = true
  · rw [event_taken dt taken c f s k] at h
    have e := Host.Outcome.next.inj h
    subst e
    exact .finished _ (hf _ k (ho.tick dt))
  · rw [event_notTaken dt taken c f s (by simpa using k)] at h
    have e := Host.Outcome.next.inj h
    subst e
    exact .quiet rfl

theorem event_path {dt : Micros} {taken : State → Bool} {c : State → Causes} {f : State → State}
    (h : event dt taken c f s = .next t) (ho : Obeys lawful s)
    (hf : ∀ u, taken u = true → Obeys lawful u → Path Phase.acts lawful u (f u)) :
    Ended i lawful (s.tick dt) t :=
  event_judged h ho fun u k o => .of_path (hf u k o)

theorem passage_ended {dt : Micros} {c : State → Causes}
    (h : event dt (fun t => decide (t.boot.station = .join) && due t.boot.joinEnds t.now) c enterRun s = .next t) :
    Ended i lawful (s.tick dt) t := by
  by_cases k : (decide ((s.tick dt).boot.station = .join) && due (s.tick dt).boot.joinEnds (s.tick dt).now) = true
  · rw [event_taken dt _ _ _ s k] at h
    have e := Host.Outcome.next.inj h
    subst e
    exact .passed _ (of_decide_eq_true (Bool.and_eq_true_iff.1 k).1)
  · rw [event_notTaken dt _ _ _ s (by simpa using k)] at h
    have e := Host.Outcome.next.inj h
    subst e
    exact .quiet rfl

theorem event_aside {dt : Micros} {taken : State → Bool} {c : State → Causes} {f : State → State}
    (h : event dt taken c f s = .next t) (ho : Obeys lawful s) (hf : ∀ u, (f u).plant = u.plant) :
    Ended i lawful (s.tick dt) t :=
  event_path h ho fun u _ _ => aside_of_plant (hf u)

theorem receive_path {dt : Micros} {q : Nat} {f : State → State} (h : receive dt q f s = .next t) (ho : Obeys lawful s)
    (hf : ∀ u, Obeys lawful u → Path Phase.acts lawful u (f u)) : Ended i lawful (s.tick dt) t := by
  rw [receive, plainEvent] at h
  refine event_path h ho fun u _ o => ?_
  have m : Aside u (hear q u) := .of_plant (hear_plant q u)
  exact m.path.trans (hf _ fun l => m.driveLaw (o l))

theorem onDriven_path {P : Phase → Prop} {c : ChanId} {f : VentId → Dir → State → State}
    (hf : ∀ v d, c ∈ s.channels v → s.chans[c.val].driven = some d → JudgedPath i P lawful s (f v d s)) :
    JudgedPath i P lawful s (onDriven c f s) := by
  unfold onDriven
  split
  · next v d h => exact hf v d (driving_eq h).1 (driving_eq h).2
  · exact .of_path .refl

/-- A command that only lets time pass or changes other blocks' items at once. -/
theorem at_once {dt : Micros} {x : State} (h : (Host.Outcome.next x : Host.Outcome State Fault Refusal) = .next t)
    (hx : x.plant = (s.tick dt).plant) : Ended i lawful (s.tick dt) t := by
  have e := Host.Outcome.next.inj h
  subst e
  exact .quiet hx

/-! ### Every command -/

/-- The commands of resets and start-up that act. -/
inductive StartsUp (i : Instr) (s : State) : State → Prop where
  | reset (kind : ResetKind) (x : Station) (hi : isReset i = true) (hx : x ≠ .join ∧ x ≠ .run) :
      StartsUp i s (resetBlocks kind x s)
  | abandon (h : s.isLoading = true) : StartsUp i s (abandonAttempt s)
  | fallback (h : s.isLoading = true) : StartsUp i s (enterFallback s)
  | join (b : List Byte) (h : s.isLoading = true) (hb : imageSound b = true) : StartsUp i s (enterJoin (readImage b) s)

theorem startUp_path {dt : Micros} {x y : State} {b : Bool}
    (h : (Host.Outcome.next (if b then x else y) : Host.Outcome State Fault Refusal) = .next t)
    (hx : b = true → StartsUp i (s.tick dt) x) (hy : y = s.tick dt) :
    StartsUp i (s.tick dt) t ∨ Ended i lawful (s.tick dt) t := by
  have e := Host.Outcome.next.inj h
  subst e
  split
  · next k => exact .inl (hx k)
  · rw [hy]; exact .inr (.quiet rfl)

theorem heardEpoch_path (n : StationNode) (f : Peer → Peer) (e : Epoch) (z : ZoneSet) (o : Obeys lawful s) :
    Path Phase.acts lawful s (takeEpoch e z (heardFrom n f s)) := by
  have m : Aside s (heardFrom n f s) := .of_plant (heardFrom_plant n f s)
  exact (aside_of_plant (heardFrom_plant n f s)).trans (takeEpoch_path e z fun l => m.driveLaw (o l))

/-- R43 to R60, R170 to R176: what a command does to the Drive Unit, once for all. -/
theorem exec_ended (h : exec i s = .next t) (ho : Obeys lawful s) :
    StartsUp i (s.tick (timeOf i)) t ∨ Ended i lawful (s.tick (timeOf i)) t := by
  cases i with
  | powerOnReset dt => have e := Host.Outcome.next.inj h; subst e; exact .inl (.reset _ _ rfl ⟨nofun, nofun⟩)
  | resetPinReset dt => have e := Host.Outcome.next.inj h; subst e; exact .inl (.reset _ _ rfl ⟨nofun, nofun⟩)
  | chipResetEnd dt =>
    have e := Host.Outcome.next.inj h
    subst e
    unfold endReset
    split
    · exact .inl (.reset _ _ rfl ⟨nofun, nofun⟩)
    all_goals exact .inr (.quiet rfl)
  | memoryNoAcknowledge dt =>
    rw [exec, execMemoryNoAcknowledge] at h
    exact startUp_path h (fun k => .abandon k) rfl
  | readAttemptTimeout dt =>
    rw [exec, execReadAttemptTimeout] at h
    exact startUp_path h (fun k => .abandon (Bool.and_eq_true_iff.1 k).1) rfl
  | imageReadComplete dt b =>
    rw [exec, execImageReadComplete] at h
    refine startUp_path h (fun k => ?_) rfl
    have k := (Bool.and_eq_true_iff.1 k).1
    unfold finishRead loadImage
    by_cases hb : imageSound b = true
    · rw [if_pos hb]; exact .join b k hb
    · rw [if_neg hb]; exact .fallback k
  | joinTimerExpiry dt =>
    rw [exec, execJoinTimerExpiry] at h
    exact .inr (passage_ended h)
  | alarmReceived dt q n z e =>
    rw [exec, execAlarmReceived] at h
    exact .inr (receive_path h ho fun u o => heardEpoch_path _ _ _ _ o)
  | resetReceived dt q n e =>
    rw [exec, execResetReceived] at h
    refine .inr (receive_path h ho fun u o => ?_)
    cases n with
    | station n =>
      exact heardEpoch_path _ _ _ _ o
    | panel => exact takeEpoch_path _ _ o
  | statusReceived dt q n c =>
    rw [exec, execStatusReceived] at h
    exact .inr (receive_path h ho fun u o => heardEpoch_path _ _ _ _ o)
  | drawReceived dt q n c =>
    rw [exec, execDrawReceived] at h
    exact .inr (receive_path h ho fun u _ => aside_of_plant (heardFrom_plant _ _ u))
  | areaReceived dt q n c =>
    rw [exec, execAreaReceived] at h
    exact .inr (event_aside h ho fun u => heardFrom_plant _ _ _)
  | weatherReceived dt q n c =>
    rw [exec, execWeatherReceived] at h
    exact .inr (receive_path h ho fun u _ => aside_of_plant (heardWeather_plant _ _ u))
  | comfortReceived dt q z x y =>
    rw [exec, execComfortReceived] at h
    exact .inr (receive_path h ho fun u o => applyComfort_path _ _ _ o)
  | overrideOpen dt q sc =>
    rw [exec, execOverrideOpen] at h
    exact .inr (receive_path h ho fun u o => applyOverride_path _ _ o)
  | overrideClose dt q sc =>
    rw [exec, execOverrideClose] at h
    exact .inr (receive_path h ho fun u o => applyOverride_path _ _ o)
  | overrideHold dt q sc =>
    rw [exec, execOverrideHold] at h
    exact .inr (receive_path h ho fun u o => applyOverride_path _ _ o)
  | overrideRelease dt q sc =>
    rw [exec, execOverrideRelease] at h
    exact .inr (receive_path h ho fun u o => applyOverride_path _ _ o)
  | frameDiscarded dt c =>
    rw [exec, execFrameDiscarded] at h
    exact .inr (at_once h (by split <;> rfl))
  | demandExpiry dt v c =>
    rw [exec, execDemandExpiry] at h
    exact .inr (event_path h ho fun u _ _ => (updRecords_aside u v _ fun r => expire_inTravel c r).path
      (updRecords_sameFire u v _ fun _ => by cases c <;> rfl))
  | contactPinChange dt k b =>
    rw [exec, execContactPinChange] at h
    exact .inr (at_once h (movePin_plant k b _))
  | debounceExpiry dt k =>
    rw [exec, execDebounceExpiry] at h
    exact .inr (event_path h ho fun u _ o => debounceEnds_path k o)
  | loopReading dt k x =>
    rw [exec, execLoopReading] at h
    exact .inr (at_once h (by split <;> rfl))
  | confirmationExpiry dt k =>
    rw [exec, execConfirmationExpiry] at h
    exact .inr (event_path h ho fun u _ o => confirmLoop_path k o)
  | loopFaultTimerExpiry dt k =>
    rw [exec, execLoopFaultTimerExpiry] at h
    exact .inr (event_aside h ho fun _ => rfl)
  | powerCycleExpiry dt k =>
    rw [exec, execPowerCycleExpiry] at h
    exact .inr (at_once h (by split <;> rfl))
  | mainsPinChange dt k b =>
    rw [exec, execMainsPinChange] at h
    exact .inr (at_once h (movePin_plant k b _))
  | mainsLossTimerExpiry dt =>
    rw [exec, execMainsLossTimerExpiry] at h
    exact .inr (event_path h ho fun u _ o => loseMains_path o)
  | mainsReturnTimerExpiry dt =>
    rw [exec, execMainsReturnTimerExpiry] at h
    exact .inr (event_aside h ho fun _ => rfl)
  | rainComparatorChange dt k b =>
    rw [exec, execRainComparatorChange] at h
    exact .inr (at_once h (movePin_plant k b _))
  | rainConfirmationExpiry dt =>
    rw [exec, execRainConfirmationExpiry] at h
    exact .inr (event_aside h ho (sourceSide_plant _ fun _ => rfl))
  | dryHoldExpiry dt =>
    rw [exec, execDryHoldExpiry] at h
    exact .inr (event_aside h ho (sourceSide_plant _ fun _ => rfl))
  | anemometerPulse dt k =>
    rw [exec, execAnemometerPulse] at h
    exact .inr (event_aside h ho (sourceSide_plant _ takePulse_plant))
  | calmTimeout dt =>
    rw [exec, execCalmTimeout] at h
    exact .inr (event_aside h ho (sourceSide_plant _ fun u => evaluateWind_plant _))
  | vaneReading dt k x =>
    rw [exec, execVaneReading] at h
    exact .inr (event_aside h ho (sourceSide_plant _ (takeVane_plant x)))
  | windHoldExpiry dt =>
    rw [exec, execWindHoldExpiry] at h
    exact .inr (event_aside h ho (sourceSide_plant _ endWindHold_plant))
  | persistenceExpiry dt v =>
    rw [exec, execPersistenceExpiry] at h
    exact .inr (event_aside h ho fun _ => rfl)
  | heartbeatExpiry dt b =>
    rw [exec, execHeartbeatExpiry] at h
    exact .inr (event_aside h ho fun _ => rfl)
  | recoveryDrawSent dt =>
    rw [exec, execRecoveryDrawSent] at h
    exact .inr (event_aside h ho fun _ => rfl)
  | frameStart dt b =>
    rw [exec, execFrameStart] at h
    exact .inr (at_once h (by split <;> rfl))
  | arbitrationLost dt =>
    rw [exec, execArbitrationLost] at h
    exact .inr (at_once h (by split <;> rfl))
  | bitError dt =>
    rw [exec, execBitError] at h
    exact .inr (event_path h ho fun u _ o => bitError_path o)
  | frameSentWithoutError dt =>
    rw [exec, execFrameSentWithoutError] at h
    refine .inr (event_path h ho fun u k o => frameSent_path o ?_)
    simp only [Bool.and_eq_true] at k
    exact k.1.1
  | muteTimerExpiry dt =>
    rw [exec, execMuteTimerExpiry] at h
    exact .inr (event_aside h ho fun _ => rfl)
  | stuckLine dt =>
    rw [exec, execStuckLine] at h
    exact .inr (event_path h ho fun u _ o => stuckLine_path o)
  | inrushWindowEnd dt c =>
    rw [exec, execInrushWindowEnd] at h
    refine .inr (event_path h ho fun u _ _ => ?_)
    split
    · exact (endInrush_moves _ u).path rfl
    · exact .refl
  | peerInrushExpiry dt n =>
    rw [exec, execPeerInrushExpiry] at h
    exact .inr (event_aside h ho fun _ => rfl)
  | peerStale dt n =>
    rw [exec, execPeerStale] at h
    exact .inr (event_aside h ho fun u => reformWeather_plant _)
  | peerEviction dt n =>
    rw [exec, execPeerEviction] at h
    exact .inr (event_aside h ho fun u => reformWeather_plant _)
  | weatherRecordAge dt n =>
    rw [exec, execWeatherRecordAge] at h
    exact .inr (event_aside h ho fun u => reformWeather_plant _)
  | stopTimeReached dt v =>
    rw [exec, execStopTimeReached] at h
    exact .inr (event_path h ho fun u k o => reachStop_path k o)
  | startWindowEnd dt c =>
    rw [exec, execStartWindowEnd] at h
    exact .inr (event_judged h ho fun u _ o => onDriven_path fun v d hc hd => endWindow_judged rfl hc hd o)
  | endFilterExpiry dt c =>
    rw [exec, execEndFilterExpiry] at h
    exact .inr (event_judged h ho fun u _ o => onDriven_path fun v d hc hd => anchor_judged (.inl rfl) hc hd o)
  | stallFilterExpiry dt c =>
    rw [exec, execStallFilterExpiry] at h
    exact .inr (event_judged h ho fun u _ o => onDriven_path fun v d hc hd =>
      .of_path ((stall_moves (runs_of_driven o hc hd).1 (runs_of_driven o hc hd).2).path rfl))
  | shortDetected dt c =>
    rw [exec, execShortDetected] at h
    exact .inr (event_judged h ho fun u _ o => onDriven_path fun v d hc hd =>
      .of_path ((short_moves (runs_of_driven o hc hd).1 (runs_of_driven o hc hd).2).path rfl))
  | runLimitReached dt v =>
    rw [exec, execRunLimitReached] at h
    refine .inr (event_judged h ho fun u k o => ⟨_, .timeout dt v rfl ?_, .refl⟩)
    unfold State.limitDue at k
    simp only [Bool.and_eq_true, Fin.getElem_fin] at k
    obtain ⟨-, k⟩ := k
    rcases e : u.vents[v.val].state with _ | _ | _ | _ | _ | _ | _ | _ <;> rw [e] at k <;> first | rfl | cases k
  | dwellExpiry dt v =>
    rw [exec, execDwellExpiry] at h
    refine .inr (event_judged h ho fun u k o => ?_)
    simp only [Bool.and_eq_true, Fin.getElem_fin, beq_iff_eq] at k
    exact endDwell_judged rfl k.1.2 k.2 o
  | coolDownExpiry dt v =>
    rw [exec, execCoolDownExpiry] at h
    refine .inr (event_path h ho fun u k o => ?_)
    simp only [Bool.and_eq_true, Fin.getElem_fin, beq_iff_eq] at k
    have e := k.1.2
    exact (evaluate_move (ph := .effect) ⟨fun _ => .inl (by rw [e]; rfl), fun l => (o l).start_ne (by rw [e]; decide),
      fun _ => by rw [e]; decide, fun _ _ => rfl⟩).path rfl
  | channelCurrentReading dt c m =>
    rw [exec, execChannelCurrentReading] at h
    exact .inr (event_judged h ho fun u _ o => onDriven_path fun v d hc hd => .of_path (takeReading_path m hc hd o))

/-- The same as one sequence of moves: a start-up command, or at most one verdict and then plain moves. -/
theorem exec_path (h : exec i s = .next t) (ho : Obeys lawful s) :
    StartsUp i (s.tick (timeOf i)) t ∨ JudgedPath i Phase.plain lawful (s.tick (timeOf i)) t := by
  rcases exec_ended h ho with st | en
  · exact .inl st
  refine .inr ?_
  cases en with
  | quiet h => exact .of_path (aside_of_plant h)
  | finished c p =>
    obtain ⟨u, hu, p⟩ := p
    have o := Path.obeys p (hu.obeys (ho.tick _))
    exact ⟨u, hu, (Path.mono p Phase.acts_plain).trans ((finish_path _ _ o).mono Phase.completes_plain)⟩
  | passed c hj =>
    have p := enterRun_path hj (ho.tick (timeOf i))
    exact .of_path ((Path.mono p Phase.passes_plain).trans ((finish_path _ _ (Path.obeys p (ho.tick _))).mono Phase.completes_plain))

end Sys2Proof.Machine
end

section
/-! SUPPORT. What the start-up commands make of the Drive Unit (R62, R63, R171 to R176). -/

namespace Sys2Proof.Machine

variable {lawful : Prop} {v : VentId} {s t u : State} {i : Instr}

/-! ### Chip resets and FALLBACK -/

theorem resetBlocks_chans (kind : ResetKind) (x : Station) (s : State) (c : ChanId) :
    (resetBlocks kind x s).chans[c.val] = Channel.reset := by simp [resetBlocks, State.reset]
theorem resetBlocks_vents (kind : ResetKind) (x : Station) (s : State) (v : VentId) :
    (resetBlocks kind x s).vents[v.val] = Vent.reset := by simp [resetBlocks, State.reset]
theorem resetBlocks_demand (kind : ResetKind) (x : Station) (s : State) (v : VentId) :
    (resetBlocks kind x s).demand[v.val] = Records.reset := by simp [resetBlocks, State.reset]
theorem resetBlocks_retention (kind : ResetKind) (x : Station) (s : State) (c : ChanId) :
    (resetBlocks kind x s).retention[c.val] = none ∨ (resetBlocks kind x s).retention[c.val] = s.retention[c.val] := by
  unfold resetBlocks
  cases kind
  · simp
  · exact .inr rfl

/-- The image of no vent names no channel. -/
theorem empty_channels (v : VentId) : (Image.empty.vents[v]).channels = [] := by
  simp [Image.empty, VentCfg.channels, VentCfg.unused]

/-- R62, R175: the read that is abandoned or refused leaves the Drive Unit and the retention memory alone. -/
structure Untouched (s t : State) : Prop where
  drive : t.vents = s.vents ∧ t.chans = s.chans ∧ t.supply = s.supply
  rest : t.image = s.image ∧ t.demand = s.demand ∧ t.retention = s.retention
  station : t.boot.station = s.boot.station ∨ t.boot.station = .fallback

theorem enterFallback_untouched (s : State) : Untouched s (enterFallback s) :=
  ⟨⟨rfl, rfl, rfl⟩, ⟨rfl, rfl, rfl⟩, .inr rfl⟩

theorem abandonAttempt_untouched (s : State) : Untouched s (abandonAttempt s) := by
  unfold abandonAttempt
  split
  · exact ⟨⟨rfl, rfl, rfl⟩, ⟨rfl, rfl, rfl⟩, .inl rfl⟩
  · exact enterFallback_untouched s

/-! ### The image taken into JOIN (R171 to R173) -/

theorem startTerminals_plant (s : State) : (startTerminals s).plant = s.plant := by
  unfold startTerminals startRain
  simp only
  split <;> rfl

theorem enterJoin_plant (k : Image) (s : State) :
    (enterJoin k s).plant = ((writeWeatherRecords (loadRetention (s.withImage k))).withBoot
      { s.boot with station := .join, loader := .done, joinEnds := some (s.now + Config.join) }).plant := by
  unfold enterJoin
  simp only
  have h := startTerminals_plant (writeWeatherRecords (loadRetention (s.withImage k)))
  generalize startTerminals (writeWeatherRecords (loadRetention (s.withImage k))) = u at *
  have hb : u.boot = s.boot := (congrArg State.boot h :)
  have hn : u.now = s.now := (congrArg State.now h :)
  rw [hb, hn]
  exact congrArg (fun p : State => p.withBoot
    { s.boot with station := .join, loader := .done, joinEnds := some (s.now + Config.join) }) h

theorem enterJoin_boot (k : Image) (s : State) : (enterJoin k s).boot =
    { s.boot with station := .join, loader := .done, joinEnds := some (s.now + Config.join) } :=
  (congrArg State.boot (enterJoin_plant k s) :)

theorem enterJoin_image (k : Image) (s : State) : (enterJoin k s).image = k :=
  (congrArg State.image (enterJoin_plant k s) :)

theorem enterJoin_supply (k : Image) (s : State) : (enterJoin k s).supply = s.supply :=
  (congrArg State.supply (enterJoin_plant k s) :)

theorem owner_congr (h : t.image = s.image) (c : ChanId) : t.owner c = s.owner c := by
  simp [State.owner, State.channels, State.cfg, h]

/-- A channel has an owner exactly where some vent names it. -/
theorem owner_isSome (s : State) (c : ChanId) : (s.owner c).isSome = true ↔ ∃ v, c ∈ s.channels v := by
  have all : ∀ v : VentId, v ∈ eight := by decide
  simp [State.owner, List.find?_isSome, all]

theorem enterJoin_chans (k : Image) (s : State) (c : ChanId) : (enterJoin k s).chans[c.val] =
    { Channel.reset with estimate := if ((enterJoin k s).owner c).isSome then s.retention[c.val] else none } := by
  have h : (enterJoin k s).chans = (loadRetention (s.withImage k)).chans :=
    (congrArg State.chans (enterJoin_plant k s) :)
  rw [h, owner_congr (s := s.withImage k) (enterJoin_image k s)]
  simp [loadRetention]

theorem enterJoin_vents (k : Image) (s : State) (v : VentId) : (enterJoin k s).vents[v.val] =
    { Vent.reset with stops :=
        if ((enterJoin k s).channels v).any (fun c => (enterJoin k s).chans[c.val].estimate.isSome) then Config.stopLimit else 0 } := by
  have h : (enterJoin k s).vents = (loadRetention (s.withImage k)).vents :=
    (congrArg State.vents (enterJoin_plant k s) :)
  have hc : (enterJoin k s).chans = (loadRetention (s.withImage k)).chans :=
    (congrArg State.chans (enterJoin_plant k s) :)
  have ch : (enterJoin k s).channels v = (s.withImage k).channels v := by
    rw [State.channels, State.cfg, enterJoin_image]; rfl
  rw [h, hc, ch]
  simp only [loadRetention, State.withRetention_vents, State.withVents_vents, Vector.getElem_ofFn]
  rfl

theorem enterJoin_retention (k : Image) (s : State) (c : ChanId) : (enterJoin k s).retention[c.val] =
    if ((enterJoin k s).owner c).isSome then s.retention[c.val] else none := by
  have h : (enterJoin k s).retention = (loadRetention (s.withImage k)).retention :=
    (congrArg State.retention (enterJoin_plant k s) :)
  rw [h, owner_congr (s := s.withImage k) (enterJoin_image k s)]
  simp only [loadRetention, State.withRetention_retention, Vector.getElem_ofFn]
  rfl

theorem enterJoin_records (k : Image) (s : State) (h : ∀ v : VentId, s.demand[v.val].inTravel) (v : VentId) :
    (enterJoin k s).demand[v.val].inTravel := by
  have e : (enterJoin k s).demand = (writeWeatherRecords (loadRetention (s.withImage k))).demand :=
    (congrArg State.demand (enterJoin_plant k s) :)
  rw [e]
  exact (writeWeatherRecords_aside (loadRetention (s.withImage k))).records h v

/-! ### The channels of a sound image (R171) -/

theorem readVent_channels (b : List Byte) (v : VentId) (h : ventSound b v = true) :
    (readVent b v).channels.map Fin.val = namedChannels b v := by
  unfold readVent namedChannels
  simp only
  by_cases hu : ventFlag b v 7 = true
  swap
  · simp [hu, VentCfg.channels, VentCfg.unused]
  simp only [hu, if_true, VentCfg.channels]
  simp only [ventSound, hu, Bool.not_true, Bool.false_or, Bool.and_eq_true, decide_eq_true_eq, Bool.or_eq_true,
    Bool.not_eq_true', beq_iff_eq] at h
  obtain ⟨⟨h7, he⟩, -⟩ := h
  generalize byteAt b (ventBase v + 1) = c at *
  split
  · next ht =>
    have he : c % 2 = 0 := by simpa [ht] using he
    simp only [List.map_cons, List.map_nil, Fin.ofNat, Fin.val_add]
    have h1 : c % 8 = c := Nat.mod_eq_of_lt (by omega)
    have h2 : (c % 8 + (1 : Fin 8).val) % 8 = c + 1 := by
      rw [h1]; exact Nat.mod_eq_of_lt (show c + 1 < 8 by omega)
    rw [h2, h1]
  · simp [Fin.ofNat, Nat.mod_eq_of_lt (show c < 8 by omega)]

/-- R171: the vents of a sound image name no channel in common. -/
theorem imageSound_apart {b : List Byte} (h : imageSound b = true) : (readImage b).ChannelsApart := by
  have all : ∀ v : VentId, v ∈ eight := by decide
  simp only [imageSound, Bool.and_eq_true, List.all_eq_true] at h
  obtain ⟨⟨-, hv⟩, hc⟩ := h
  intro v w hvw c h1 h2
  simp only [readImage, Fin.getElem_fin, Vector.getElem_ofFn] at h1 h2
  have m1 : c.val ∈ namedChannels b v := by
    rw [← readVent_channels b v (hv v (all v))]; exact List.mem_map_of_mem h1
  have m2 : c.val ∈ namedChannels b w := by
    rw [← readVent_channels b w (hv w (all w))]; exact List.mem_map_of_mem h2
  simp only [channelsSound, List.all_eq_true, Bool.or_eq_true, beq_iff_eq] at hc
  rcases hc v (all v) w (all w) with e | e
  · exact hvw e
  · have := e c.val m1
    simp [m2] at this

/-! ### The laws at start-up -/

theorem StartsUp.positionLaw (h : StartsUp i s t) (hs : s.PositionLaw) : t.PositionLaw := by
  obtain ⟨hc, hv⟩ := hs
  have untouched : ∀ u, Untouched s u → u.PositionLaw := by
    rintro u ⟨⟨h1, h2, -⟩, ⟨-, h3, h4⟩, -⟩
    unfold State.PositionLaw
    rw [h1, h2, h3, h4]
    exact ⟨hc, hv⟩
  cases h with
  | reset kind x _ _ =>
    refine ⟨fun c => ?_, fun v => ?_⟩ <;> simp only [Fin.getElem_fin]
    · rw [resetBlocks_chans]
      refine ⟨nofun, nofun, ?_⟩
      rcases resetBlocks_retention kind x s c with e | e <;> rw [e]
      · nofun
      · exact (hc c).2.2
    · rw [resetBlocks_vents, resetBlocks_demand]
      exact ⟨by rintro p ⟨⟩; decide, nofun, nofun, nofun, nofun, nofun⟩
  | abandon _ => exact untouched _ (abandonAttempt_untouched s)
  | fallback _ => exact untouched _ (enterFallback_untouched s)
  | join b _ hb =>
    refine ⟨fun c => ?_, fun v => ⟨?_, enterJoin_records _ s (fun v => (hv v).2) v⟩⟩ <;> simp only [Fin.getElem_fin]
    · rw [enterJoin_chans, enterJoin_retention]
      have : inTravel (if ((enterJoin (readImage b) s).owner c).isSome then s.retention[c.val] else none) := by
        split
        · exact (hc c).2.2
        · nofun
      exact ⟨this, nofun, this⟩
    · rw [enterJoin_vents]; rintro p ⟨⟩; decide

theorem isLoading_station (h : s.isLoading = true) : s.boot.station = .loading := by
  simp only [State.isLoading, Bool.and_eq_true, decide_eq_true_eq] at h; exact h.1

theorem StartsUp.driveLaw (h : StartsUp i s t) (hs : s.DriveLaw) : t.DriveLaw := by
  obtain ⟨h1, h2, h3, h4⟩ := hs
  have untouched : ∀ u, Untouched s u → s.isLoading = true → u.DriveLaw := by
    rintro u ⟨⟨e1, e2, e3⟩, ⟨e4, -, -⟩, -⟩ hl
    have hl := h3 (by rw [isLoading_station hl]; decide)
    unfold State.DriveLaw State.channels State.cfg
    rw [e1, e2, e3, e4]
    exact ⟨h1, h2, fun _ => hl, h4⟩
  cases h with
  | reset kind x _ _ =>
    refine ⟨fun v w _ c hc => ?_, fun c d e => ?_, fun _ => ⟨fun c => ?_, rfl⟩, nofun⟩
    · rw [show (resetBlocks kind x s).image = Image.empty from rfl, empty_channels] at hc; cases hc
    · rw [Fin.getElem_fin, resetBlocks_chans] at e; cases e
    · rw [Fin.getElem_fin, resetBlocks_chans]; rfl
  | abandon hl => exact untouched _ (abandonAttempt_untouched s) hl
  | fallback hl => exact untouched _ (enterFallback_untouched s) hl
  | join b hl hb =>
    have start := (h3 (by rw [isLoading_station hl]; decide)).2
    refine ⟨by rw [enterJoin_image]; exact imageSound_apart hb, fun c d e => ?_, fun _ => ⟨fun c => ?_, ?_⟩, fun a ha => ?_⟩
    · rw [Fin.getElem_fin, enterJoin_chans] at e; cases e
    · rw [Fin.getElem_fin, enterJoin_chans]; rfl
    · rw [enterJoin_supply]; exact start
    · rw [enterJoin_supply, start] at ha; cases ha

theorem StartsUp.runLaw (h : StartsUp i s t) (hs : s.RunLaw) : t.RunLaw := by
  have untouched : ∀ u, Untouched s u → u.RunLaw := by
    rintro u ⟨⟨e1, e2, -⟩, ⟨e4, -, -⟩, -⟩
    unfold State.RunLaw State.channels State.cfg
    rw [e1, e2, e4]
    exact hs
  have atRest : ∀ u : State, (∀ c : ChanId, u.chans[c.val].driven = none) →
      (∀ v : VentId, u.vents[v.val].stopTime = none ∧ u.vents[v.val].state = .idle) → u.RunLaw := by
    intro u hc hv
    refine ⟨fun c e => ?_, fun v e => ?_, fun v d e => ?_⟩ <;> rw [Fin.getElem_fin] at e
    · rw [hc] at e; cases e
    · rw [(hv v).1] at e; cases e
    · rw [(hv v).2] at e; cases d <;> cases e
  cases h with
  | reset kind x _ _ =>
    exact atRest _ (fun c => by rw [resetBlocks_chans]; rfl) fun v => by rw [resetBlocks_vents]; exact ⟨rfl, rfl⟩
  | abandon _ => exact untouched _ (abandonAttempt_untouched s)
  | fallback _ => exact untouched _ (enterFallback_untouched s)
  | join b _ _ =>
    exact atRest _ (fun c => by rw [enterJoin_chans]; rfl) fun v => by rw [enterJoin_vents]; exact ⟨rfl, rfl⟩

end Sys2Proof.Machine
end

section
/-! CERTIFICATES. The laws of positions and drives are kept by every step (O4, O5). -/

open Sys2Proof Sys2Proof.Machine

/-! ### Every command keeps the laws -/

theorem exec_positionLaw {i : Instr} {s t : State} (h : exec i s = .next t) (hs : s.PositionLaw) : t.PositionLaw := by
  have hs : (s.tick (timeOf i)).PositionLaw := hs
  rcases exec_path (lawful := False) h nofun with st | ⟨u, hu, p⟩
  · exact st.positionLaw hs
  · rcases hu.move (lawful := False) with rfl | ⟨v, m⟩
    · exact Path.positionLaw p hs
    · exact Path.positionLaw p (m.positionLaw hs)

theorem exec_driveLaw {i : Instr} {s t : State} (h : exec i s = .next t) (hs : s.DriveLaw) : t.DriveLaw := by
  rcases exec_path (lawful := True) h fun _ => hs with st | ⟨u, hu, p⟩
  · exact st.driveLaw hs
  · exact Path.obeys p (hu.obeys fun _ => hs) trivial

/-- A law that the queue of commands does not enter is kept by every step where every command keeps it. -/
theorem step_keeps {P : State → Prop} (hp : ∀ s l, P s → P (s.withPending l))
    (hx : ∀ i s t, exec i s = .next t → P s → P t) {s t : State} (h : step s = .next t) (hs : P s) : P t := by
  unfold step at h
  split at h
  · have e := Host.Outcome.next.inj h
    exact e ▸ hs
  · next c rest _ => exact hx c _ t h (hp s rest hs)

/-- Settles O4: every move of the Drive Unit keeps positions and targets in travel (`Move.positionLaw`), every act of another
block writes records and retained positions in travel, and every command is a sequence of these (`exec_path`). -/
theorem positionLawKept : Obligations.PositionLawKept := fun _ _ hs h =>
  step_keeps (fun _ _ k => k) (fun _ _ _ => exec_positionLaw) h hs

/-- Settles O5: the same, with the drive law itself as what each move is made under (`Move.driveLaw`). -/
theorem driveLawKept : Obligations.DriveLawKept := fun _ _ hs h =>
  step_keeps (fun _ _ k => k) (fun _ _ _ => exec_driveLaw) h hs

end

section
/-! SUPPORT. One vent through the completion of an event: what each part of it can do to the vent and its channels, while the
other vents' operations leave them alone. -/

namespace Sys2Proof.Machine

open Relation

variable {v w : VentId} {s t u : State}

/-! ### A vent and its channels left alone -/

/-- The vent's items and its channels stand, as do the clock and the image. -/
structure Keeps (v : VentId) (s t : State) : Prop where
  vent : t.vents[v.val] = s.vents[v.val]
  chans : ∀ c ∈ s.channels v, t.chans[c.val] = s.chans[c.val]
  image : t.image = s.image
  now : t.now = s.now

namespace Keeps

theorem refl (v : VentId) (s : State) : Keeps v s s := ⟨rfl, fun _ _ => rfl, rfl, rfl⟩

theorem channels (h : Keeps v s t) (w : VentId) : t.channels w = s.channels w := by
  rw [State.channels, State.cfg, h.image]; rfl

theorem trans (h : Keeps v s t) (k : Keeps v t u) : Keeps v s u :=
  ⟨k.vent.trans h.vent, fun c hc => (k.chans c (by rwa [h.channels])).trans (h.chans c hc), k.image.trans h.image,
    k.now.trans h.now⟩

theorem sameView (h : Keeps v s t) : SameView v s t :=
  ⟨h.now, h.image, h.chans, by rw [h.vent]; exact ⟨rfl, rfl, rfl, rfl⟩⟩

theorem wants (h : Keeps v s t) : t.wants v = s.wants v := h.sameView.wants
theorem chanPos (h : Keeps v s t) {c : ChanId} (hc : c ∈ s.channels v) : t.chanPos v c = s.chanPos v c := h.sameView.chanPos hc

theorem held (h : Keeps v s t) : t.held v = s.held v := by
  simp only [State.held, Fin.getElem_fin, h.vent]

theorem undriven (h : Keeps v s t) (k : s.undriven v) : t.undriven v := fun c hc => by
  rw [h.channels] at hc; rw [h.chans c hc]; exact k c hc

end Keeps

theorem Aside.keeps (h : Aside s t) (v : VentId) : Keeps v s t :=
  ⟨by rw [h.vents], fun c _ => by rw [h.chans], h.image, h.now⟩

theorem Move.keeps {ph : Phase} {lawful : Prop} (h : Move ph lawful w s t) (hs : s.DriveLaw) (hv : v ≠ w) : Keeps v s t :=
  ⟨h.others.1 v hv, fun c hc => h.others.2 c (hs.1 v w hv c hc), image_of_still h.still, now_of_still h.still⟩

theorem Moves.keeps {ph : Phase} (h : Moves ph True w s t) (hs : s.DriveLaw) (hv : v ≠ w) : Keeps v s t := by
  induction h with
  | refl => exact .refl v s
  | tail p m ih => exact ih.trans (m.keeps (Moves.obeys p (fun _ => hs) trivial) hv)

/-- The eight vents are those before v, v and those after it. -/
theorem eight_split (v : VentId) : eight = eight.take v.val ++ v :: eight.drop (v.val + 1) ∧
    v ∉ eight.take v.val ∧ v ∉ eight.drop (v.val + 1) := by
  revert v; decide

/-- An operation for each of the eight vents, as the vent v sees it: its own turn between those of the others. -/
theorem forEight_at (f : State → VentId → State) (hf : ∀ u w, u.DriveLaw → Moves .settle True w u (f u w)) (hs : s.DriveLaw)
    (v : VentId) : ∃ u, Keeps v s u ∧ u.still = s.still ∧ u.DriveLaw ∧ Keeps v (f u v) (forEight f s) ∧
      (forEight f s).still = s.still ∧ (forEight f s).DriveLaw := by
  have skip : ∀ (l : List VentId) (s : State), s.DriveLaw → v ∉ l →
      Keeps v s (l.foldl f s) ∧ (l.foldl f s).still = s.still ∧ (l.foldl f s).DriveLaw := by
    intro l
    induction l with
    | nil => exact fun s hs _ => ⟨.refl v s, rfl, hs⟩
    | cons w l ih =>
      intro s hs hl
      rw [List.mem_cons, not_or] at hl
      have m := hf s w hs
      obtain ⟨h1, h2, h3⟩ := ih (f s w) (m.obeys (fun _ => hs) trivial) hl.2
      exact ⟨(m.keeps hs hl.1).trans h1, h2.trans m.still, h3⟩
  obtain ⟨e, ha, hb⟩ := eight_split v
  generalize eight.take v.val = a at *
  generalize eight.drop (v.val + 1) = b at *
  obtain ⟨h1, h2, h3⟩ := skip a s hs ha
  have m := hf _ v h3
  obtain ⟨k1, k2, k3⟩ := skip b _ (m.obeys (fun _ => h3) trivial) hb
  have fold : forEight f s = b.foldl f (f (a.foldl f s) v) := by
    unfold forEight; rw [e, List.foldl_append, List.foldl_cons]
  rw [fold]
  exact ⟨_, h1, h2, h3, k1, k2.trans (m.still.trans h2), k3⟩

/-! ### Demands handed on, for one vent (R24, R59) -/

/-- R24: the vent is handed its effective demand. -/
def handsOn (who : VentId → Bool) (before s : State) (v : VentId) : Bool :=
  who v && s.used v && (before.effective v != s.effective v || before.held v != s.held v) && s.held v != s.effective v

/-- R12, R59: the vent's lock was released, and it is evaluated for that. -/
def releasedOf (who : VentId → Bool) (before s : State) (v : VentId) : Bool :=
  who v && decide (before.vents[v].state = .locked) && decide (s.vents[v].state = .idle)

theorem handOn_eq (who : VentId → Bool) (before s : State) :
    handOn who before s = forEight (fun s v => if handsOn who before s v then handOnVent v s else s) s := rfl

theorem evaluateReleased_eq (who : VentId → Bool) (before s : State) :
    evaluateReleased who before s = forEight (fun s v => if releasedOf who before s v then evaluate v s else s) s := rfl

theorem handsOn_keeps {who : VentId → Bool} {before : State} (h : Keeps v s u) (hs : u.still = s.still) :
    handsOn who before u v = handsOn who before s v := by
  simp only [handsOn, used_of_still hs, effective_of_still hs, h.held]

theorem release_free {who : VentId → Bool} {before : State} (hs : s.DriveLaw) (h : releasedOf who before s v = true) :
    Free .settle True s v := by
  have hi : s.vents[v.val].state = .idle := by
    simp only [releasedOf, Bool.and_eq_true, decide_eq_true_eq, Fin.getElem_fin] at h; exact h.2
  exact .of_idle hi fun _ => hs.start_ne (by rw [hi]; decide)

/-- R24, R59: what the taking of the demands makes of one vent: it is handed its demand or not, and then evaluated for a
released lock or not. -/
theorem settleDemands_at (who : VentId → Bool) (before : State) (hs : s.DriveLaw) (v : VentId) :
    ∃ u x, Keeps v s u ∧ u.still = s.still ∧ u.DriveLaw ∧
      Keeps v (if handsOn who before s v then handOnVent v u else u) x ∧ x.still = s.still ∧ x.DriveLaw ∧
      Keeps v (if releasedOf who before x v then evaluate v x else x) (settleDemands who before s) ∧
      (settleDemands who before s).still = s.still ∧ (settleDemands who before s).DriveLaw := by
  obtain ⟨u, h1, h2, h3, h4, h5, h6⟩ := forEight_at
    (fun s v => if handsOn who before s v then handOnVent v s else s) (fun u w hu => by
      split
      · exact handOnVent_moves fun _ => hu
      · exact .refl) hs v
  obtain ⟨x, k1, k2, k3, k4, k5, k6⟩ := forEight_at
    (fun s v => if releasedOf who before s v then evaluate v s else s) (fun u w hu => by
      split
      · next h => exact .single (evaluate_move (release_free hu h))
      · exact .refl) h6 v
  rw [← handOn_eq] at h4 h5 h6 k1 k2 k4 k5 k6
  rw [← evaluateReleased_eq] at k4 k5 k6
  simp only [handsOn_keeps h1 h2] at h4
  exact ⟨u, x, h1, h2, h3, h4.trans k1, k2.trans h5, k3, k4, k5.trans h5, k6⟩

/-! ### The pre-check, for one vent (R70 to R80) -/

/-- What the scheduler may do for a vent in WAIT_SUPPLY. -/
inductive Served (v : VentId) (s : State) : State → Prop where
  | kept : Served v s s
  | given (hd : s.DriveLaw) (hw : s.vents[v.val].state = .waitSupply) (hu : s.used v = true) (hl : s.lineDown = true)
      (hn : s.supply.start = none) (hr : s.inRun = true) : Served v s (giveStart v s)
  | announced (hd : s.DriveLaw) (hw : s.vents[v.val].state = .waitSupply) (hu : s.used v = true) (hl : s.line.state = .ok)
      (hn : s.supply.start = none) (hr : s.inRun = true) : Served v s (announce v s)

theorem giveStart_state (v : VentId) (s : State) : (giveStart v s).vents[v.val].state ≠ .waitSupply := by
  rcases giveStart_cases v s with ⟨-, e⟩ | ⟨d, k, -, ⟨-, e⟩ | ⟨-, e⟩⟩ <;> rw [e]
  · simp
  · simp only [beginRun_vents, updVent_same]; cases d <;> simp [Dir.runState]
  · simp

theorem giveStart_served (hw : s.vents[v.val].state = .waitSupply) (hl : s.lineDown = true)
    (hr : s.inRun = true) : Moves .serve True v s (giveStart v s) :=
  giveStart_moves fun _ => ⟨hr, .inr ⟨rfl, hw, hl⟩⟩

/-- R70 to R80: what a pre-check makes of one vent. -/
theorem serve_at (n : Nat) (v : VentId) : ∀ {s : State}, s.DriveLaw →
    ∃ u x, Keeps v s u ∧ u.still = s.still ∧ Served v u x ∧ Keeps v x (serve n s) ∧ (serve n s).still = s.still ∧
      (serve n s).DriveLaw := by
  induction n with
  | zero => exact fun {s} hs => ⟨s, s, .refl v s, rfl, .kept, .refl v s, rfl, hs⟩
  | succ n ih =>
    intro s hs
    have stays : ∃ u x, Keeps v s u ∧ u.still = s.still ∧ Served v u x ∧ Keeps v x s ∧ s.still = s.still ∧ s.DriveLaw :=
      ⟨s, s, .refl v s, rfl, .kept, .refl v s, rfl, hs⟩
    unfold serve
    split
    swap
    · exact stays
    next hr =>
    simp only [Bool.and_eq_true, Option.isNone_iff_eq_none] at hr
    obtain ⟨hr, hn⟩ := hr
    split
    · exact stays
    next w hw =>
    obtain ⟨hu, hw⟩ := head_waits hw
    split
    · next hl =>
      split
      swap
      · exact stays
      have m := giveStart_served hw hl hr
      have md := m.obeys (fun _ => hs) trivial
      obtain ⟨u, x, h1, h2, h3, h4, h5, h6⟩ := ih md
      by_cases hv : v = w
      · subst hv
        refine ⟨s, _, .refl v s, rfl, .given hs hw hu hl hn hr, ?_, h5.trans m.still, h6⟩
        cases h3 with
        | kept => exact h1.trans h4
        | given _ k _ _ _ _ => rw [h1.vent] at k; exact absurd k (giveStart_state v s)
        | announced _ k _ _ _ _ => rw [h1.vent] at k; exact absurd k (giveStart_state v s)
      · exact ⟨u, x, (m.keeps hs hv).trans h1, h2.trans m.still, h3, h4, h5.trans m.still, h6⟩
    · split
      swap
      · exact stays
      next _ hk =>
      rw [Bool.and_eq_true, beq_iff_eq] at hk
      have m : Move .serve True w s (announce w s) := .announce s rfl hr hw
      have md := m.driveLaw trivial hs
      by_cases hv : v = w
      · subst hv
        exact ⟨s, _, .refl v s, rfl, .announced hs hw hu hk.1 hn hr, .refl v _, m.still, md⟩
      · exact ⟨_, _, m.keeps hs hv, m.still, .kept, .refl v _, m.still, md⟩

theorem schedule_at (before : State) (v : VentId) (hs : s.DriveLaw) :
    ∃ u x, Keeps v s u ∧ u.still = s.still ∧ Served v u x ∧ Keeps v x (schedule before s) ∧
      (schedule before s).still = s.still ∧ (schedule before s).DriveLaw := by
  unfold schedule
  split
  · exact serve_at 9 v hs
  · exact ⟨s, s, .refl v s, rfl, .kept, .refl v s, rfl, hs⟩

/-! ### The frames, for one vent (R78, R149) -/

/-- What the queue may do to a vent: its start, announced but not sent, ends. -/
inductive Returned (v : VentId) (s : State) : State → Prop where
  | kept : Returned v s s
  | back (id : Nat) (hd : s.DriveLaw) (hs : s.supply.start = some { vent := v, id := id }) : Returned v s (returnStart v s)

/-- A sequence of frames offered, as the vent v sees it. -/
structure Offered (v : VentId) (s t : State) : Prop where
  vent : ∃ u x, Keeps v s u ∧ Returned v u x ∧ Keeps v x t
  law : t.DriveLaw
  start : t.supply.start = s.supply.start ∨ t.supply.start = none

theorem Offered.of_aside (h : Aside s t) (hs : s.DriveLaw) (v : VentId) : Offered v s t :=
  ⟨⟨s, s, .refl v s, .kept, h.keeps v⟩, h.driveLaw hs, .inl h.start⟩

theorem returnStart_start (v : VentId) (s : State) : (returnStart v s).supply.start = none := by
  unfold returnStart evaluateWaiting
  split
  · rfl
  · split <;> rfl

theorem returnStart_state (v : VentId) (s : State) : (returnStart v s).vents[v.val].state = .idle ∨
    (returnStart v s).vents[v.val].state = .waitSupply ∨ (returnStart v s).vents[v.val].state = .dwell := by
  unfold returnStart evaluateWaiting
  split
  · simp
  · split
    · simp
    · simp

theorem returnStart_offered {a : Start} (hs : s.DriveLaw) (ha : s.supply.start = some a) (v : VentId) :
    Offered v s (returnStart a.vent s) := by
  have ann := hs.2.2.2 a ha
  have m : Moves .settle True a.vent s (returnStart a.vent s) := returnStart_moves fun _ => ann
  refine ⟨?_, m.obeys (fun _ => hs) trivial, .inr (returnStart_start _ _)⟩
  by_cases hv : v = a.vent
  · subst hv
    exact ⟨s, _, .refl _ s, .back a.id hs ha, .refl _ _⟩
  · exact ⟨s, s, .refl v s, .kept, m.keeps hs hv⟩

theorem Offered.trans (h : Offered v s t) (k : t.DriveLaw → Offered v t u) : Offered v s u := by
  obtain ⟨⟨a, x, h1, h2, h3⟩, hl, hs⟩ := h
  obtain ⟨⟨b, y, k1, k2, k3⟩, kl, ks⟩ := k hl
  refine ⟨?_, kl, ?_⟩
  · cases h2 with
    | kept => exact ⟨b, y, (h1.trans h3).trans k1, k2, k3⟩
    | back id hd hs' =>
      cases k2 with
      | kept => exact ⟨a, _, h1, .back id hd hs', (h3.trans k1).trans k3⟩
      | back id' kd ks' =>
        have ann := kd.2.2.2 _ ks'
        have := (k1.vent.trans h3.vent)
        simp only [Fin.getElem_fin] at ann
        rw [this] at ann
        rcases returnStart_state v a with e | e | e <;> rw [e] at ann <;> cases ann
  · rcases ks with e | e
    · rw [e]; exact hs
    · exact .inr e

end Sys2Proof.Machine
end

section
/-! SUPPORT. One vent through the frames of an event, and through the demands of an event that changes no record's cause: the
calls of a recompute are all that can hand it another one (R24, R99, R101). -/

namespace Sys2Proof.Machine

open Relation

variable {v w : VentId} {s t u before : State}

/-! ### The frames of an event (R73, R74, R103, R115, R151) -/

theorem Offered.refl (hs : s.DriveLaw) (v : VentId) : Offered v s s := ⟨⟨s, s, .refl v s, .kept, .refl v s⟩, hs, .inl rfl⟩

theorem drawLost_offered (q : Queued) (hs : s.DriveLaw) (v : VentId) : Offered v s (drawLost q s) := by
  unfold drawLost
  split
  · next a ha =>
    split
    · exact returnStart_offered hs ha v
    · exact .refl hs v
  · exact .refl hs v

theorem offer_offered (f : Frame) (ann : Option Nat) (hs : s.DriveLaw) (v : VentId) : Offered v s (offer f ann s) := by
  unfold offer
  split
  · exact .refl hs v
  · exact .of_aside (updLine_aside s _) hs v
  · exact .of_aside (updLine_aside s _) hs v
  · exact (Offered.of_aside (updLine_aside s _) hs v).trans fun k => drawLost_offered _ k v

theorem offerDraw_offered (hs : s.DriveLaw) (v : VentId) : Offered v s (offerDraw s) := by
  unfold offerDraw
  simp only
  split
  · exact (offer_offered _ _ hs v).trans fun k => .of_aside (updSupply_aside _ _ rfl) k v
  · split
    · next a ha =>
      split
      · exact .refl hs v
      · exact returnStart_offered hs ha v
    · exact .refl hs v

theorem sendStatus_offered (c : Causes) (before : State) (hs : s.DriveLaw) (v : VentId) :
    Offered v s (sendStatus c before s) := by
  unfold sendStatus; split
  · exact offer_offered _ _ hs v
  · exact .refl hs v

theorem sendArea_offered (c : Causes) (r : Bool) (hs : s.DriveLaw) (v : VentId) : Offered v s (sendArea c r s) := by
  unfold sendArea
  simp only
  repeat' split
  all_goals first
    | exact .refl hs v
    | exact (offer_offered _ _ hs v).trans fun k => .of_aside (withArea_aside _ _) k v

theorem sendWeather_offered (c : Causes) (before : State) (hs : s.DriveLaw) (v : VentId) :
    Offered v s (sendWeather c before s) := by
  unfold sendWeather; split
  · exact offer_offered _ _ hs v
  · exact .refl hs v

theorem tryRecovery_offered (c : Causes) (hs : s.DriveLaw) (v : VentId) : Offered v s (tryRecovery c s) := by
  unfold tryRecovery; repeat' split
  all_goals first | exact .refl hs v | exact .of_aside (updLine_aside s _) hs v

/-- R78, R149: all that the frames of an event can do to a vent is to return it from ANNOUNCED. -/
theorem sendFrames_offered (c : Causes) (before : State) (r : Bool) (hs : s.DriveLaw) (v : VentId) :
    Offered v s (sendFrames c before r s) := by
  have h1 : Offered v s (sendDraw before s) := by
    unfold sendDraw; split
    · exact offerDraw_offered hs v
    · exact .refl hs v
  exact (((h1.trans fun k => sendStatus_offered c before k v).trans fun k => sendArea_offered c r k v).trans fun k =>
    sendWeather_offered c before k v).trans fun k => tryRecovery_offered c k v

/-! ### What the Drive Unit holds of a demand (R24) -/

theorem updVent_held (s : State) (v : VentId) (f : Vent → Vent)
    (h : (f s.vents[v.val]).target = s.vents[v.val].target ∧ (f s.vents[v.val]).cls = s.vents[v.val].cls) :
    (s.updVent v f).held v = s.held v := by
  simp only [State.held, Fin.getElem_fin, updVent_same, h]

@[simp] theorem toIdle_held (v : VentId) (s : State) : (toIdle v s).held v = s.held v := updVent_held s v _ ⟨rfl, rfl⟩
@[simp] theorem toWait_held (v : VentId) (k : RunKind) (s : State) : (toWait v k s).held v = s.held v :=
  updVent_held s v _ ⟨rfl, rfl⟩
@[simp] theorem toDwell_held (v : VentId) (s : State) : (toDwell v s).held v = s.held v := updVent_held s v _ ⟨rfl, rfl⟩
@[simp] theorem countStop_held (v : VentId) (s : State) : (countStop v s).held v = s.held v := updVent_held s v _ ⟨rfl, rfl⟩
@[simp] theorem endStart_held (v : VentId) (s : State) : (endStart s).held v = s.held v := rfl
@[simp] theorem stopDriven_held (v w : VentId) (p : ChanId → Position) (s : State) : (stopDriven w p s).held v = s.held v := by
  simp only [State.held, stopDriven_vents]
@[simp] theorem stopInPlace_held (v w : VentId) (s : State) : (stopInPlace w s).held v = s.held v := stopDriven_held v w _ s

@[simp] theorem evaluate_held (v : VentId) (s : State) : (evaluate v s).held v = s.held v := by
  rcases evaluate_cases v s with ⟨-, e⟩ | ⟨d, k, -, ⟨-, e⟩ | ⟨-, e⟩⟩ <;> simp [e]

@[simp] theorem evaluateWaiting_held (v : VentId) (s : State) : (evaluateWaiting v s).held v = s.held v := by
  unfold evaluateWaiting
  split
  · simp
  · split
    · exact updVent_held s v _ ⟨rfl, rfl⟩
    · simp

@[simp] theorem stopAt_held (v : VentId) (p : Nat) (s : State) : (stopAt v p s).held v = s.held v := by
  rw [stopAt_eq, evaluate_held, toIdle_held, updVent_held _ v _ ⟨rfl, rfl⟩, stopDriven_held]

@[simp] theorem meetHold_held (v : VentId) (s : State) : (meetHold v s).held v = s.held v := by
  rcases meetHold_cases v s with ⟨old, -, -, e⟩ | ⟨-, e⟩ <;> rw [e]
  · rw [withdrawStart, evaluate_held, toIdle_held, updVent_held _ v _ ⟨rfl, rfl⟩, stopInPlace_held]
  · simp

@[simp] theorem retarget_held (v : VentId) (d : Dir) (p : Nat) (s : State) : (retarget v d p s).held v = s.held v := by
  unfold retarget
  split
  · exact updVent_held s v _ ⟨rfl, rfl⟩
  · split
    · simp
    · split
      · exact updVent_held s v _ ⟨rfl, rfl⟩
      · simp

@[simp] theorem meetTarget_held (v : VentId) (d : Dir) (x : Target) (s : State) : (meetTarget v d x s).held v = s.held v := by
  unfold meetTarget meetIntermediate
  split
  · simp
  · split
    · split
      · exact updVent_held s v _ ⟨rfl, rfl⟩
      · simp
    · split
      · rfl
      · split
        · exact updVent_held s v _ ⟨rfl, rfl⟩
        · simp
      · simp
      · simp

/-- R24: a vent handed its demand holds it. -/
theorem handOnVent_held (v : VentId) (s : State) : (handOnVent v s).held v = s.effective v := by
  have h : (s.updVent v fun x => { x with target := (s.effective v).1, cls := (s.effective v).2 }).held v = s.effective v := by
    simp only [State.held, Fin.getElem_fin, updVent_same]
  unfold handOnVent takeDemand
  simp only
  generalize (s.updVent v fun x => { x with target := (s.effective v).1, cls := (s.effective v).2 }) = x at *
  rw [← h]
  split
  · split
    · simp
    · simp
    · split <;> simp
    · split <;> simp
    · split <;> simp
    · rfl
    · rfl
    · split
      · simp
      · split
        · split <;> simp
        · rfl
  · rfl

/-- R59: a LOCKED or a dwelling vent that is handed a demand only notes it. -/
theorem handOnVent_noted (h : s.vents[v.val].state = .locked ∨ s.vents[v.val].state = .dwell) :
    handOnVent v s = s.updVent v fun x => { x with target := (s.effective v).1, cls := (s.effective v).2 } := by
  unfold handOnVent takeDemand
  simp only [Fin.getElem_fin, updVent_same]
  rcases h with e | e <;> simp only [e, ite_self]

/-- R24: the taking of the demands, for a vent whose lock the event does not release. -/
theorem settleDemands_unreleased (who : VentId → Bool) (hs : s.DriveLaw)
    (hl : before.vents[v.val].state = .locked → s.vents[v.val].state = .locked) :
    ∃ u, Keeps v s u ∧ u.still = s.still ∧ u.DriveLaw ∧
      Keeps v (if handsOn who before s v then handOnVent v u else u) (settleDemands who before s) ∧
      (settleDemands who before s).still = s.still ∧ (settleDemands who before s).DriveLaw := by
  obtain ⟨u, x, h1, h2, h3, h4, h5, h6, h7, h8, h9⟩ := settleDemands_at who before hs v
  have nr : releasedOf who before x v = false := by
    simp only [releasedOf, Bool.and_eq_false_iff, decide_eq_false_iff_not, Fin.getElem_fin]
    by_cases k : before.vents[v.val].state = .locked
    · have hu : u.vents[v.val].state = .locked := by rw [h1.vent]; exact hl k
      refine .inr ?_
      rw [h4.vent]
      split
      · rw [handOnVent_noted (.inl hu), updVent_same]; rw [hu]; decide
      · rw [hu]; decide
    · exact .inl (.inr k)
  simp only [nr, Bool.false_eq_true, if_false] at h7
  exact ⟨u, h1, h2, h3, h4.trans h7, h8, h9⟩

/-! ### An event that changes no record's cause -/

/-- R17, R35, R86, R100, R121: where the lead zone, the flags and the weather stand and no vent is newly LOCKED, no record of the
arbiter's own follows. -/
theorem syncRecords_unmoved (h1 : s.fire.zones = before.fire.zones) (h2 : s.area = before.area) (h3 : s.windward = before.windward)
    (h4 : s.weather = before.weather)
    (h5 : ∀ v : VentId, s.vents[v.val].state = .locked → before.vents[v.val].state = .locked) : syncRecords before s = s := by
  have e1 : syncBalance before s = s := by rw [syncBalance, if_pos ⟨by rw [h1], by rw [h2]⟩]
  have e2 : dropCalls before s = s := by
    have fold : ∀ (l : List VentId) (m : VentSet), l.foldl (fun m v =>
        if (s.windward[v].flag && !before.windward[v].flag) ||
          (s.vents[v].state == .locked && before.vents[v].state != .locked) then without m v else m) m = m := by
      intro l
      induction l with
      | nil => exact fun _ => rfl
      | cons v l ih =>
        intro m
        rw [List.foldl_cons, if_neg, ih]
        have := h5 v
        simp only [h3, Bool.and_not_self, Bool.false_or, Bool.and_eq_true, beq_iff_eq, bne_iff_ne]
        exact fun k => k.2 (this k.1)
    unfold dropCalls
    simp only [fold]
    rfl
  have e3 : syncPattern before s = s := by
    rw [syncPattern, if_pos]
    simp only [State.patternInputs, h1, h3, h2]
  have e4 : syncWeatherRecords before s = s := by
    rw [syncWeatherRecords, if_pos]
    rw [h4]; exact ⟨rfl, .rfl⟩
  rw [Machine.syncRecords, e1, e2, e3, e4]

/-- The event has left alone what the records, the calls and the releases follow from, and what the vents hold. -/
structure Calm (before s : State) : Prop where
  fire : s.fire = before.fire
  area : s.area = before.area
  windward : s.windward = before.windward
  weather : s.weather = before.weather
  demand : s.demand = before.demand
  image : s.image = before.image
  locks : ∀ v : VentId, s.vents[v.val].state = .locked ↔ before.vents[v.val].state = .locked
  held : ∀ v : VentId, s.held v = before.held v

namespace Calm

theorem refl (s : State) : Calm s s := ⟨rfl, rfl, rfl, rfl, rfl, rfl, fun _ => .rfl, fun _ => rfl⟩

/-- The Drive Unit acts on a vent that keeps its demand and its lock. -/
theorem of_still (h : s.still = before.still)
    (hv : ∀ w : VentId, w ≠ v → s.vents[w.val] = before.vents[w.val])
    (hl : s.vents[v.val].state = .locked ↔ before.vents[v.val].state = .locked) (hh : s.held v = before.held v) :
    Calm before s := by
  refine ⟨fire_of_still h, area_of_still h, windward_of_still h, weather_of_still h, demand_of_still h, image_of_still h,
    fun w => ?_, fun w => ?_⟩ <;> by_cases k : w = v
  · subst k; exact hl
  · rw [hv w k]
  · subst k; exact hh
  · simp only [State.held, Fin.getElem_fin, hv w k]

variable (h : Calm before s)
include h

theorem effective (v : VentId) : s.effective v = before.effective v := by simp only [State.effective, h.demand]

theorem syncRecords : syncRecords before s = s :=
  syncRecords_unmoved (by rw [h.fire]) h.area h.windward h.weather fun v => (h.locks v).1

theorem hands_none (who : VentId → Bool) (v : VentId) : handsOn who before s v = false := by
  simp [handsOn, h.effective, h.held]

theorem settleDemands (who : VentId → Bool) : settleDemands who before s = s := by
  have e1 : handOn who before s = s := forEight_self _ s fun v => by
    have := h.hands_none who v
    unfold handsOn at this
    rw [this]; rfl
  have e2 : evaluateReleased who before s = s := forEight_self _ s fun v => if_neg (by
    simp only [Bool.and_eq_true, decide_eq_true_eq, Fin.getElem_fin]
    rintro ⟨⟨-, k1⟩, k2⟩
    rw [← h.locks, k2] at k1; cases k1)
  rw [Machine.settleDemands, e1, e2]

/-- R24, R35: nothing is aligned. -/
theorem align : align before s = s := by rw [Machine.align, h.syncRecords, h.settleDemands]

end Calm

theorem patternTarget_end (s : State) (v : VentId) : s.patternTarget v = 0 ∨ s.patternTarget v = 1000 := by
  unfold State.patternTarget
  repeat' split
  all_goals simp

/-- R16, section 1.7: what the FIRE record of a vent is formed from. -/
theorem patternRecord_congr (h1 : t.fire = s.fire) (h2 : t.windward = s.windward) (h3 : t.image = s.image)
    (h4 : (s.cfg v).role = .reserve → t.isCalled v = s.isCalled v) : t.patternRecord v = s.patternRecord v := by
  have e1 : t.cfg v = s.cfg v := by simp only [State.cfg, h3]
  have e2 : t.patternTarget v = s.patternTarget v := by
    unfold State.patternTarget
    rw [e1, h1, h2, show t.leadZone = s.leadZone by simp only [State.leadZone, h1]]
    split
    · rfl
    · rfl
    · next hr => simp only [State.isCalled] at h4; simp only [h4 hr]
    · rfl
  have e3 : t.fireMode = s.fireMode := by simp only [State.fireMode, h1]
  have e4 : t.used v = s.used v := by simp only [State.used, e1]
  rw [State.patternRecord, State.patternRecord, e2, e3, e4]

/-! ### The calls (R99) -/

theorem memberOf_or (v : VentId) (a b : VentSet) : memberOf v (a ||| b) = (memberOf v a || memberOf v b) := by
  simp [memberOf]

theorem memberOf_only (v w : VentId) : memberOf v (only w) = decide (v = w) := by revert v w; decide

theorem callUntil_mem (th : Nat) (v : VentId) (l : List VentId) : ∀ (n : Nat) (m : VentSet),
    (memberOf v m = true → memberOf v (callUntil s th n m l) = true) ∧
      (memberOf v (callUntil s th n m l) = true → memberOf v m = true ∨ v ∈ l) := by
  induction l with
  | nil => exact fun n m => ⟨id, .inl⟩
  | cons w l ih =>
    intro n m
    unfold callUntil
    split
    · exact ⟨id, .inl⟩
    · obtain ⟨h1, h2⟩ := ih (n + (s.cfg w).product 1000) (m ||| only w)
      refine ⟨fun h => h1 (by rw [memberOf_or, h]; rfl), fun h => ?_⟩
      rcases h2 h with h | h
      · rw [memberOf_or, Bool.or_eq_true, memberOf_only, decide_eq_true_eq] at h
        rcases h with h | rfl
        · exact .inl h
        · exact .inr (by simp)
      · exact .inr (List.mem_cons_of_mem w h)

theorem insertByRank_mem (s : State) (v w : VentId) (l : List VentId) : w ∈ s.insertByRank v l ↔ w = v ∨ w ∈ l := by
  induction l with
  | nil => simp [State.insertByRank]
  | cons x l ih =>
    unfold State.insertByRank
    split
    · simp
    · simp only [List.mem_cons, ih]; tauto

theorem uncalled_mem (s : State) (z : Zone) (v : VentId) :
    v ∈ s.uncalled z ↔ s.eligible z v = true ∧ s.isCalled v = false := by
  have fold : ∀ l : List VentId, v ∈ l.foldr s.insertByRank [] ↔ v ∈ l := by
    intro l
    induction l with
    | nil => rfl
    | cons w l ih => rw [List.foldr_cons, insertByRank_mem, ih, List.mem_cons]
  have all : v ∈ eight := by clear fold; revert v; decide
  simp [State.uncalled, fold, all]

/-- R99: a called vent stays called, and a newly called one is eligible. -/
theorem callsFor_mem (s : State) (z : Zone) (take : Nat) (v : VentId) :
    (s.isCalled v = true → memberOf v (s.callsFor z take) = true) ∧
      (memberOf v (s.callsFor z take) = true → s.isCalled v = true ∨ s.eligible z v = true) := by
  unfold State.callsFor
  split
  · exact ⟨id, .inl⟩
  · obtain ⟨h1, h2⟩ := callUntil_mem (s := s) (take * 256000) v (s.uncalled z) (s.callSum z) s.area.calledSet
    exact ⟨h1, fun h => (h2 h).imp id fun k => ((uncalled_mem s z v).1 k).1⟩

/-! ### The demands a recompute hands on -/

/-- The FIRE records as the calls of a recompute for the zone z leave them. -/
def recalled (z : Zone) (s : State) : State := syncPattern s (allocate z s)

/-- R99, R101: a recompute hands the vent the FIRE demand that its calls have changed. -/
structure FireHanded (v : VentId) (s u : State) : Prop where
  mode : s.fireMode = true
  used : s.used v = true
  brigade : s.demand[v.val].brigade = none
  target : ∃ p, u.effective v = (.pos p, .fire) ∧ (p = 0 ∨ p = 1000)
  changed : u.effective v ≠ s.effective v
  called : s.firePatternHolds v → (s.cfg v).role = .reserve ∧ ∃ z, s.eligible z v = true
  recalls : ∃ z, s.area.balance = some z ∧ s.active = true ∧ u.effective v = (recalled z s).effective v

theorem effective_fire {r : Records} {x : Record} (h : r.brigade = none) (hf : r.fire = some x) :
    r.effective = (x.target, .fire) := by
  simp only [Records.effective, Records.top, h, hf]

theorem effective_brigade {r : Records} {x : Record} (h : r.brigade = some x) : r.effective = (x.target, .brigade) := by
  simp only [Records.effective, Records.top, h]

theorem Records.effective_fire_above {r : Records} {x : Option Record} (h : r.brigade.isSome = true) :
    ({ r with fire := x } : Records).effective = r.effective := by
  obtain ⟨y, hy⟩ := Option.isSome_iff_exists.1 h
  simp only [effective_brigade hy, effective_brigade (r := { r with fire := x }) hy]

theorem allocate_eq (z : Zone) (s : State) : ∃ a take, allocate z s = s.withArea a ∧ a.calledSet = s.callsFor z take :=
  ⟨_, _, rfl, rfl⟩

theorem syncPattern_aside (before s : State) : Aside s (syncPattern before s) := by
  unfold syncPattern; split
  · exact .of_plant rfl
  · exact writePattern_aside s

theorem recalled_aside (z : Zone) (s : State) : Aside s (recalled z s) := by
  obtain ⟨a, take, e, -⟩ := allocate_eq z s
  rw [recalled, e]
  exact (withArea_aside s a).trans (syncPattern_aside s _)

/-- R16, R101: a recompute leaves a vent's records alone, or writes its FIRE record from the calls it makes. -/
theorem recalled_demand (z : Zone) (s : State) (v : VentId) :
    (recalled z s).demand[v.val] = s.demand[v.val] ∨
      ∃ take a, (recalled z s).demand[v.val] = { s.demand[v.val] with fire := (s.withArea a).patternRecord v } ∧
        a.calledSet = s.callsFor z take := by
  obtain ⟨a, take, e, h⟩ := allocate_eq z s
  rw [recalled, e]
  unfold syncPattern
  split
  · exact .inl rfl
  · exact .inr ⟨take, a, by simp [writePattern, State.withDemand], h⟩

/-- R16, R101: the FIRE record that a vent's new effective demand comes from. -/
theorem recalled_hands {z : Zone} (hm : s.fireMode = true) (hu : s.used v = true)
    (hc : (recalled z s).effective v ≠ s.effective v) : s.demand[v.val].brigade = none ∧
      (∃ p, (recalled z s).effective v = (.pos p, .fire) ∧ (p = 0 ∨ p = 1000)) ∧
      (s.firePatternHolds v → (s.cfg v).role = .reserve ∧ s.eligible z v = true) := by
  simp only [State.effective, Fin.getElem_fin] at hc ⊢
  rcases recalled_demand z s v with e | ⟨take, a, e, ha⟩
  · exact absurd (by rw [e]) hc
  rw [e] at hc ⊢
  have hb : s.demand[v.val].brigade = none := by
    rw [← Option.not_isSome_iff_eq_none]
    exact fun k => hc (Records.effective_fire_above k)
  have hrec : (s.withArea a).patternRecord v =
      some { target := .pos ((s.withArea a).patternTarget v), origin := .firePattern, expiry := none } := by
    have e1 : (s.withArea a).fireMode = s.fireMode := rfl
    have e2 : (s.withArea a).used v = s.used v := rfl
    rw [State.patternRecord, e1, e2, hm, hu]; rfl
  refine ⟨hb, ⟨_, effective_fire (r := { s.demand[v.val] with fire := (s.withArea a).patternRecord v }) hb hrec,
    patternTarget_end _ v⟩, fun hp => ?_⟩
  simp only [State.firePatternHolds, Fin.getElem_fin] at hp
  have differs : (s.withArea a).patternRecord v ≠ s.patternRecord v := fun k => hc (by rw [k, ← hp])
  have hr : (s.cfg v).role = .reserve := by
    by_contra k
    exact differs (patternRecord_congr rfl rfl rfl fun j => absurd j k)
  refine ⟨hr, ?_⟩
  obtain ⟨h1, h2⟩ := callsFor_mem s z take v
  by_contra k
  refine differs (patternRecord_congr rfl rfl rfl fun _ => ?_)
  have e3 : (s.withArea a).isCalled v = memberOf v (s.callsFor z take) := by rw [← ha]; rfl
  rw [e3, Bool.eq_iff_iff]
  exact ⟨fun j => (h2 j).resolve_right k, h1⟩

/-- R24, R99, R101: in an event that changes no record's cause all that a recompute, or its absence, makes of a vent is to
hand it a changed FIRE demand. -/
theorem rebalance_at (b : Bool) (h : Calm before s) (hs : s.DriveLaw) (v : VentId) :
    ∃ u x, Keeps v s u ∧ u.DriveLaw ∧ (x = u ∨ x = handOnVent v u ∧ FireHanded v s u) ∧ Keeps v x (rebalance b before s) ∧
      (rebalance b before s).DriveLaw := by
  have stays : ∀ t : State, Keeps v s t → t.DriveLaw → ∃ u x, Keeps v s u ∧ u.DriveLaw ∧
      (x = u ∨ x = handOnVent v u ∧ FireHanded v s u) ∧ Keeps v x t ∧ t.DriveLaw :=
    fun t k l => ⟨s, s, .refl v s, hs, .inl rfl, k, l⟩
  unfold rebalance
  split
  swap
  · rw [h.settleDemands]; exact stays s (.refl v s) hs
  next hm =>
  obtain ⟨⟨-, hm⟩, act⟩ : (b = true ∧ s.fireMode = true) ∧ s.active = true := by simpa only [Bool.and_eq_true] using hm
  unfold recompute
  split
  · exact stays s (.refl v s) hs
  next z hz =>
  have a1 := recalled_aside z s
  have hands := recalled_hands (v := v) (z := z) hm
  rw [← recalled]
  obtain ⟨s2, e2⟩ : ∃ x, x = recalled z s := ⟨_, rfl⟩
  rw [← e2] at a1 hands ⊢
  obtain ⟨u, h1, h2, h3, h7, -, h8⟩ := settleDemands_unreleased (v := v) (before := before) everyVent (a1.driveLaw hs)
    fun k => by rw [a1.vents]; exact (h.locks v).2 k
  have f1 : Aside _ (formReport z (s.primarySum z, s.offerSum z) (settleDemands everyVent before s2)) := withArea_aside _ _
  have k1 : Keeps v s u := (a1.keeps v).trans h1
  have held2 : s2.held v = before.held v := by rw [← h.held v]; simp only [State.held, Fin.getElem_fin, a1.vents]
  have k2 := h7.trans (f1.keeps v)
  by_cases hh : handsOn everyVent before s2 v = true
  · rw [if_pos hh] at k2
    refine ⟨u, _, k1, h3, .inr ⟨rfl, ?_⟩, k2, f1.driveLaw h8⟩
    simp only [handsOn, everyVent, held2, bne_self_eq_false, Bool.or_false, Bool.true_and, Bool.and_eq_true,
      bne_iff_ne, ne_eq] at hh
    obtain ⟨⟨hu, hc⟩, -⟩ := hh
    have hu : s.used v = true := by rw [State.used, State.cfg, ← a1.image]; exact hu
    have he : u.effective v = s2.effective v := effective_of_still h2 v
    have hn : s2.effective v ≠ s.effective v := fun k => hc (by rw [k, h.effective])
    obtain ⟨hb, hp, hcall⟩ := hands hu hn
    exact ⟨hm, hu, hb, by rw [he]; exact hp, by rw [he]; exact hn, fun k => (hcall k).imp id fun e => ⟨z, e⟩,
      ⟨z, hz, act, by rw [he, e2]⟩⟩
  · rw [if_neg hh] at k2
    exact ⟨u, u, k1, h3, .inl rfl, k2, f1.driveLaw h8⟩

theorem firePattern_of_still (h : t.still = s.still) (v : VentId) : t.firePatternHolds v ↔ s.firePatternHolds v := by
  have e := patternRecord_congr (v := v) (fire_of_still h) (windward_of_still h) (image_of_still h) fun _ => by
    simp only [State.isCalled, area_of_still h]
  rw [State.firePatternHolds, State.firePatternHolds, e, demand_of_still h]

theorem recalled_pattern (z : Zone) (h : s.firePatternHolds v) : (recalled z s).firePatternHolds v := by
  obtain ⟨a, take, e, -⟩ := allocate_eq z s
  rw [recalled, e]
  unfold syncPattern
  split
  · next k =>
    have hc : s.area.calledSet = a.calledSet := (Prod.mk.inj (Prod.mk.inj k).2).2
    have e := patternRecord_congr (s := s) (t := s.withArea a) (v := v) rfl rfl rfl fun _ => by
      simp only [State.isCalled, State.withArea_area, hc]
    rw [State.firePatternHolds, e]; exact h
  · have e := patternRecord_congr (s := s.withArea a) (t := writePattern (s.withArea a)) (v := v) rfl rfl rfl fun _ => rfl
    rw [State.firePatternHolds, e]
    simp [writePattern, State.withDemand]

theorem formReport_eq (z : Zone) (x : Nat × Nat) (s : State) :
    ∃ r, formReport z x s = s.withArea r ∧ r.calledSet = s.area.calledSet := ⟨_, rfl, rfl⟩

/-- R16, R101: where the FIRE record of a vent follows the pattern, it does so after a recompute. -/
theorem rebalance_pattern (b : Bool) (hs : s.DriveLaw) (h : s.firePatternHolds v) :
    (rebalance b before s).firePatternHolds v := by
  have settled : ∀ t : State, t.DriveLaw → t.firePatternHolds v → (settleDemands everyVent before t).firePatternHolds v := by
    intro t hd ht
    obtain ⟨_, _, -, -, -, -, -, -, -, e, -⟩ := settleDemands_at everyVent before hd v
    exact (firePattern_of_still e v).2 ht
  unfold rebalance recompute
  split
  · split
    · exact h
    · next z _ =>
      have k := settled _ ((recalled_aside z s).driveLaw hs) (recalled_pattern z h)
      rw [recalled] at k
      generalize settleDemands everyVent before (syncPattern s (allocate z s)) = u at *
      obtain ⟨r, e, hr⟩ := formReport_eq z (s.primarySum z, s.offerSum z) u
      rw [e, State.firePatternHolds, patternRecord_congr (s := u) (t := u.withArea r) rfl rfl rfl fun _ => ?_]
      · exact k
      · simp only [State.isCalled, State.withArea_area, hr]
  · exact settled s hs h

end Sys2Proof.Machine
end

section
/-! SUPPORT. The completion of an event whose effect calls for no demand of its own, as one vent sees it (`finish_turns`): the calls
of a recompute, the pre-checks and the frames are all that can change the vent. -/

namespace Sys2Proof.Machine

open Relation

variable {v w : VentId} {s t u before : State}

/-! ### Turns of one vent -/

/-- R99, R101: a FIRE demand that the calls of a recompute hand a vent, in an event that found the state `before`. -/
structure FireCall (before : State) (v : VentId) (s : State) : Prop where
  mode : before.fireMode = true
  used : s.used v = true
  target : ∃ p, s.effective v = (.pos p, .fire) ∧ (p = 0 ∨ p = 1000)
  called : before.firePatternHolds v → (s.cfg v).role = .reserve ∧ s.vents[v.val].state ≠ .stalled

/-- One act of the completion of an event, as the vent v sees it: a demand is handed on in a state in which `call` allows one, and
a start is given while the line is `down`. -/
inductive Turn (call : State → Prop) (down : Bool) (v : VentId) : State → State → Prop where
  | keeps {s t : State} (h : Keeps v s t) : Turn call down v s t
  | hand (s : State) (hd : s.DriveLaw) (h : call s) : Turn call down v s (handOnVent v s)
  | given (s : State) (hd : s.DriveLaw) (hw : s.vents[v.val].state = .waitSupply) (hr : s.inRun = true)
      (hl : down = true) : Turn call down v s (giveStart v s)
  | announced (s : State) (hd : s.DriveLaw) (hw : s.vents[v.val].state = .waitSupply) (hr : s.inRun = true) :
      Turn call down v s (announce v s)
  | back (s : State) (hd : s.DriveLaw) (ha : s.vents[v.val].state = .announced) : Turn call down v s (returnStart v s)

abbrev Turns (call : State → Prop) (down : Bool) (v : VentId) : State → State → Prop := ReflTransGen (Turn call down v)

theorem Keeps.turns {call : State → Prop} {down : Bool} (h : Keeps v s t) : Turns call down v s t := .single (.keeps h)

/-- What the parts of a completion keep of the state `before` that the event found. -/
structure Stage (before : State) (v : VentId) (s : State) : Prop where
  lawful : s.DriveLaw
  mode : s.fireMode = before.fireMode
  line : s.lineDown = before.lineDown
  pattern : before.firePatternHolds v → s.firePatternHolds v

theorem fireMode_of_sources (h : t.sources = s.sources) : t.fireMode = s.fireMode := by
  have e : t.fire = s.fire := (congrArg State.fire h :)
  simp only [State.fireMode, e]

theorem lineDown_of_sources (h : t.sources = s.sources) : t.lineDown = s.lineDown := by
  have e : t.line.state = s.line.state := (congrArg (fun u => u.line.state) h :)
  simp only [State.lineDown, e]

theorem Stage.next (h : Stage before v s) (hs : t.sources = s.sources) (hd : t.DriveLaw)
    (hp : s.firePatternHolds v → t.firePatternHolds v) : Stage before v t :=
  ⟨hd, (fireMode_of_sources hs).trans h.mode, (lineDown_of_sources hs).trans h.line, fun k => hp (h.pattern k)⟩

/-- R24, R99, R101: a recompute, or its absence. -/
theorem rebalance_turns (b : Bool) (h : Stage before v s) {x : State} (hc : Calm x s) :
    Turns (FireCall before v) before.lineDown v s (rebalance b x s) ∧ Stage before v (rebalance b x s) := by
  obtain ⟨u, y, h1, h2, h3, h4, h5⟩ := rebalance_at b hc h.lawful v
  refine ⟨?_, h.next (rebalance_sources b x s) h5 (rebalance_pattern b h.lawful)⟩
  refine h1.turns.trans (.trans ?_ h4.turns)
  rcases h3 with rfl | ⟨rfl, k⟩
  · exact .refl
  · refine .single (.hand u h2 ⟨h.mode ▸ k.mode, ?_, k.target, fun p => ?_⟩)
    · rw [State.used, State.cfg, h1.image]; exact k.used
    · obtain ⟨hr, z, hz⟩ := k.called (h.pattern p)
      refine ⟨by rw [State.cfg, h1.image]; exact hr, ?_⟩
      rw [h1.vent]
      simp only [State.eligible, Bool.and_eq_true, bne_iff_ne] at hz
      exact hz.1.2

/-- R70 to R80: a pre-check. -/
theorem schedule_turns {call : State → Prop} (x : State) (hd : s.DriveLaw) :
    Turns call s.lineDown v s (schedule x s) ∧ (schedule x s).still = s.still ∧ (schedule x s).DriveLaw := by
  obtain ⟨u, y, h1, h2, h3, h4, h5, h6⟩ := schedule_at x v hd
  refine ⟨?_, h5, h6⟩
  refine h1.turns.trans (.trans ?_ h4.turns)
  cases h3 with
  | kept => exact .refl
  | given hd hw _ hl _ hr =>
    exact .single (.given u hd hw hr (by rw [State.lineDown, ← line_of_still h2]; exact hl))
  | announced hd hw _ _ _ hr => exact .single (.announced u hd hw hr)

theorem Stage.schedule (x : State) (h : Stage before v s) :
    Turns (FireCall before v) before.lineDown v s (schedule x s) ∧ Stage before v (Machine.schedule x s) := by
  obtain ⟨h1, h2, h3⟩ := schedule_turns (v := v) (call := FireCall before v) x h.lawful
  rw [h.line] at h1
  exact ⟨h1, h.next (schedule_sources x s) h3 (firePattern_of_still h2 v).2⟩

/-- R78, R149: the frames of the event. -/
theorem Offered.turns {call : State → Prop} {down : Bool} (h : Offered v s t) : Turns call down v s t := by
  obtain ⟨u, y, h1, h2, h3⟩ := h.vent
  refine h1.turns.trans (.trans ?_ h3.turns)
  cases h2 with
  | kept => exact .refl
  | back id hd ha => exact .single (.back u hd (hd.2.2.2 _ ha))

theorem Calm.stage (h : Calm before s) (hl : s.line.state = before.line.state) (hs : s.DriveLaw) (v : VentId) :
    Stage before v s := by
  refine ⟨hs, by simp only [State.fireMode, h.fire], by simp only [State.lineDown, hl], fun k => ?_⟩
  rw [State.firePatternHolds, patternRecord_congr (s := before) h.fire h.windward h.image fun _ => by
    simp only [State.isCalled, h.area], h.demand]
  exact k

/-- After the first recompute of a completion a pre-check, a second round of both and the frames are left: what every part keeps
(`I`) and does to one vent, the whole does. -/
theorem finish_rounds {call : State → Prop} {down : Bool} {I : State → Prop} (c : Causes) (lawful : ∀ {y}, I y → y.DriveLaw)
    (first : I (balanced c before s))
    (second : ∀ {y} b, I y → Turns call down v y (rebalance b y y) ∧ I (rebalance b y y))
    (check : ∀ {y} x, I y → Turns call down v y (schedule x y) ∧ I (schedule x y)) :
    Turns call down v (balanced c before s) (finish c before s) := by
  obtain ⟨t2, s2⟩ := check before first
  obtain ⟨t3, s3⟩ := second (recomputeDue (align before s) (firstPass c before s)) s2
  obtain ⟨t4, s4⟩ := check (firstPass c before s) s3
  have t5 : Turns call down v (balanced c before s) (secondPass c before s) := (t2.trans t3).trans t4
  have t6 : Turns call down v (balanced c before s) (decided c before s) := by
    unfold decided
    simp only [decideStarts_fst]
    exact t5.trans (sendFrames_offered c before _ (lawful s4) v).turns
  rw [finish_eq]
  exact t6.trans (((writeRetention_aside before _).keeps v).trans ((syncOutputs_aside before _).keeps v)).turns

/-- R24, R70, R78, R99: what the completion of an event that calls for no demand of its own makes of one vent. -/
theorem finish_turns (c : Causes) (h : Calm before s) (hl : s.line.state = before.line.state) (hs : s.DriveLaw)
    (v : VentId) : Turns (FireCall before v) before.lineDown v s (finish c before s) := by
  have stage := h.stage hl hs v
  obtain ⟨t1, s1⟩ := rebalance_turns (balanceDue c before s (align before s)) stage h
  have e : balanced c before s = rebalance (balanceDue c before s (align before s)) before s := by rw [balanced, h.align]
  rw [← e] at t1 s1
  exact t1.trans (finish_rounds c Stage.lawful s1 (fun b k => rebalance_turns b k (.refl _)) Stage.schedule)

end Sys2Proof.Machine
end

section
/-! SUPPORT. What one vent keeps through the completion of an event: a LOCKED one, one at rest while no start is given, and one
that no call reaches. -/

namespace Sys2Proof.Machine

open Relation

variable {v w : VentId} {s t u before : State} {call : State → Prop} {down : Bool}

/-! ### A LOCKED vent (R27, R59) -/

/-- The vent stays LOCKED, with its fault and its counts, and its channels stand. -/
structure StaysLocked (v : VentId) (s t : State) : Prop where
  state : t.vents[v.val].state = .locked
  counts : t.vents[v.val].fault = s.vents[v.val].fault ∧ t.vents[v.val].stops = s.vents[v.val].stops ∧
    t.vents[v.val].retries = s.vents[v.val].retries
  chans : ∀ c ∈ s.channels v, t.chans[c.val] = s.chans[c.val]

/-- No move of a completion takes a vent out of LOCKED. -/
theorem Move.staysLocked {ph : Phase} (m : Move ph True w s t) (hp : ph.completes) (hd : s.DriveLaw)
    (hl : s.vents[v.val].state = .locked) : StaysLocked v s t := by
  have same (h1 : t.vents[v.val] = s.vents[v.val]) (h2 : ∀ c ∈ s.channels v, t.chans[c.val] = s.chans[c.val]) :
      StaysLocked v s t := ⟨by rw [h1]; exact hl, by rw [h1]; exact ⟨rfl, rfl, rfl⟩, h2⟩
  by_cases hv : v = w
  swap
  · exact same (m.others.1 v hv) fun c hc => m.others.2 c (hd.1 v w hv c hc)
  subst hv
  have not_running {P : Prop} (k : s.vents[v.val].state.running = true) : P := by rw [hl] at k; cases k
  have not_effect {P : Prop} (k : ph = .effect) : P := by subst k; exact hp.elim
  have not_verdict {P : Prop} (k : ph = .verdict) : P := by subst k; exact hp.elim
  cases m with
  | note f h =>
    obtain ⟨h1, h2, h3⟩ := h.counts hp (by rw [hl]; rfl)
    exact ⟨by rw [updVent_same, h.state, hl], by rw [updVent_same]; exact ⟨h3, h1, h2⟩, fun _ _ => rfl⟩
  | rest f free h => exact not_effect (free.locked trivial hl)
  | announce _ _ hw => rw [hl] at hw; cases hw
  | begin d k c h _ =>
    rcases (h.origin trivial).2 with ⟨-, k⟩ | ⟨-, k, -⟩ <;> rw [hl] at k <;> cases k
  | clear => exact same rfl fun _ _ => rfl
  | stop p hr _ => exact not_running (hr trivial)
  | withdraw old hr _ _ _ _ _ => exact not_running hr
  | tune c f hp _ _ => exact not_effect hp
  | anchored c d hp _ _ => exact not_verdict hp
  | timeout hp _ => exact not_verdict hp
  | undwell hp _ => exact not_verdict hp

theorem Path.staysLocked (p : Path Phase.completes True s t) (hd : s.DriveLaw) (hl : s.vents[v.val].state = .locked) :
    StaysLocked v s t := by
  induction p with
  | refl => exact ⟨hl, ⟨rfl, rfl, rfl⟩, fun _ _ => rfl⟩
  | tail p m ih =>
    obtain ⟨h1, ⟨h2, h3, h4⟩, h5⟩ := ih
    rcases m with ⟨m, -⟩ | ⟨ph, w, hp, m⟩
    · exact ⟨by rw [m.vents]; exact h1, by rw [m.vents]; exact ⟨h2, h3, h4⟩, by rw [m.chans]; exact h5⟩
    · obtain ⟨k1, ⟨k2, k3, k4⟩, k5⟩ := m.staysLocked hp (Path.obeys p (fun _ => hd) trivial) h1
      exact ⟨k1, ⟨k2.trans h2, k3.trans h3, k4.trans h4⟩, fun c hc =>
        (k5 c (by rw [Path.channels p]; exact hc)).trans (h5 c hc)⟩

/-! ### A vent at rest while no start is given (R44, R59) -/

/-- The vent does not run; its counts and the direction of its last run stand, and so do its channels. -/
structure Rests (v : VentId) (s t : State) : Prop where
  state : t.vents[v.val].state.running = false
  counts : t.vents[v.val].stops = s.vents[v.val].stops ∧ t.vents[v.val].retries = s.vents[v.val].retries ∧
    t.vents[v.val].lastDir = s.vents[v.val].lastDir
  chans : ∀ c ∈ s.channels v, t.chans[c.val] = s.chans[c.val]
  image : t.image = s.image

namespace Rests

theorem refl (h : s.vents[v.val].state.running = false) : Rests v s s := ⟨h, ⟨rfl, rfl, rfl⟩, fun _ _ => rfl, rfl⟩

theorem trans (h : Rests v s t) (k : Rests v t u) : Rests v s u := by
  obtain ⟨-, ⟨h1, h2, h3⟩, h4, h5⟩ := h
  obtain ⟨k0, ⟨k1, k2, k3⟩, k4, k5⟩ := k
  refine ⟨k0, ⟨k1.trans h1, k2.trans h2, k3.trans h3⟩, fun c hc => (k4 c ?_).trans (h4 c hc), k5.trans h5⟩
  rw [State.channels, State.cfg, h5]; exact hc

end Rests

theorem Keeps.rests (h : Keeps v s t) (hr : s.vents[v.val].state.running = false) : Rests v s t :=
  ⟨by rw [h.vent]; exact hr, by rw [h.vent]; exact ⟨rfl, rfl, rfl⟩, h.chans, h.image⟩

theorem Moves.rests (p : Moves .settle True v s t) (hr : s.vents[v.val].state.running = false) : Rests v s t := by
  induction p with
  | refl => exact .refl hr
  | @tail s t p m ih =>
    refine ih.trans ?_
    have hr := ih.state
    have not_running {P : Prop} (k : s.vents[v.val].state.running = true) : P := by rw [hr] at k; cases k
    cases m with
    | note f h =>
      obtain ⟨h1, h2, h3⟩ := h.counts trivial hr
      exact ⟨by rw [updVent_same, h.state]; exact hr, by rw [updVent_same]; exact ⟨h1, h2, h.kept.1⟩, fun _ _ => rfl, rfl⟩
    | rest f free h =>
      obtain ⟨h1, h2, h3⟩ := h.counts trivial
      exact ⟨by rw [updVent_same]; exact h.state.1, by rw [updVent_same]; exact ⟨h1, h2, h.kept.1⟩, fun _ _ => rfl, rfl⟩
    | announce hp _ _ => cases hp
    | begin d k c h _ => rcases (h.origin trivial).2 with ⟨k, -⟩ | ⟨k, -, -⟩ <;> cases k
    | clear => exact ⟨hr, ⟨rfl, rfl, rfl⟩, fun _ _ => rfl, rfl⟩
    | stop p hr _ => exact not_running (hr trivial)
    | withdraw old hr _ _ _ _ _ => exact not_running hr
    | tune c f hp _ _ => cases hp
    | anchored c d hp _ _ => cases hp
    | timeout hp _ => cases hp
    | undwell hp _ => cases hp

/-- In LINE_OK the completion gives no start: a vent that does not run stays at rest. -/
theorem Turn.rests (h : Turn call down v s t) (hl : down = false) (hr : s.vents[v.val].state.running = false) :
    Rests v s t := by
  cases h with
  | keeps h => exact h.rests hr
  | hand hd _ => exact (handOnVent_moves fun _ => hd).rests hr
  | given _ _ _ h => rw [hl] at h; cases h
  | announced _ hw _ =>
    exact ⟨by rw [announce_same]; rfl, by rw [announce_same]; exact ⟨rfl, rfl, rfl⟩, fun _ _ => rfl, rfl⟩
  | back _ ha => exact (returnStart_moves fun _ => ha).rests hr

theorem Turns.rests (h : Turns call down v s t) (hl : down = false) (hr : s.vents[v.val].state.running = false) :
    Rests v s t := by
  induction h with
  | refl => exact .refl hr
  | tail _ m ih => exact ih.trans (m.rests hl ih.state)

/-! ### A vent that no call reaches (R16, R101) -/

theorem uncallable_noCall (h : before.uncallable v) (hi : s.image = before.image) : ¬ FireCall before v s := by
  intro k
  rcases h with h | ⟨⟨-, -, h⟩, hr⟩
  · have := k.mode; rw [h] at this; cases this
  · have := (k.called (h v).1).1
    rw [State.cfg, hi] at this
    exact hr this

/-- A vent outside WAIT_SUPPLY and ANNOUNCED that no call reaches is left alone. -/
theorem Turns.unmoved (h : Turns call down v s t) (hn : ∀ x, Keeps v s x → ¬ call x)
    (hw : s.vents[v.val].state ≠ .waitSupply ∧ s.vents[v.val].state ≠ .announced) : Keeps v s t := by
  induction h with
  | refl => exact .refl v s
  | @tail t u _ m ih =>
    have he := ih.vent
    cases m with
    | keeps k => exact ih.trans k
    | hand _ k => exact absurd k (hn _ ih)
    | given _ k _ _ => rw [he] at k; exact absurd k hw.1
    | announced _ k _ => rw [he] at k; exact absurd k hw.1
    | back _ k => rw [he] at k; exact absurd k hw.2

/-- R41, R68, R78: the vent is in WAIT_SUPPLY or ANNOUNCED; its join time, its retries and the direction of its last run stand,
and it sees the same channels. -/
structure Waits (v : VentId) (s t : State) : Prop where
  state : t.vents[v.val].state = .waitSupply ∨ t.vents[v.val].state = .announced
  items : t.vents[v.val].joinTime = s.vents[v.val].joinTime ∧ t.vents[v.val].lastDir = s.vents[v.val].lastDir ∧
    t.vents[v.val].retries = s.vents[v.val].retries
  view : SameView v s t

theorem SameView.trans (h : SameView v s t) (k : SameView v t u) : SameView v s u := by
  obtain ⟨h1, h2, h3, h4, h5, h6, h7⟩ := h
  obtain ⟨k1, k2, k3, k4, k5, k6, k7⟩ := k
  refine ⟨k1.trans h1, k2.trans h2, fun c hc => (k3 c ?_).trans (h3 c hc), k4.trans h4, k5.trans h5, k6.trans h6, k7.trans h7⟩
  rw [State.channels, State.cfg, h2]; exact hc

theorem Waits.trans (h : Waits v s t) (k : Waits v t u) : Waits v s u := by
  obtain ⟨-, ⟨h1, h2, h3⟩, h4⟩ := h
  obtain ⟨k0, ⟨k1, k2, k3⟩, k4⟩ := k
  exact ⟨k0, ⟨k1.trans h1, k2.trans h2, k3.trans h3⟩, h4.trans k4⟩

/-- R42, R78: a start that ends without being given leaves the vent waiting where it still may move. -/
theorem returnStart_waiting {d : Dir} {k : RunKind} (hw : s.wants v = some (d, k)) (hp : s.vents[v.val].permits d = true) :
    returnStart v s = (endStart s).updVent v fun x => { x with state := .waitSupply, runKind := some k } := by
  have view : SameView v s ((endStart s).updVent v fun x => { x with state := .waitSupply }) :=
    ⟨rfl, rfl, fun _ _ => rfl, by rw [updVent_same]; exact ⟨rfl, rfl, rfl, rfl⟩⟩
  have p : ((endStart s).updVent v fun x => { x with state := .waitSupply }).vents[v].permits d = true := by
    rw [Fin.getElem_fin, updVent_same]; exact hp
  unfold returnStart evaluateWaiting
  rw [view.wants, hw]
  simp only [p, if_true]
  rw [updVent_updVent]

/-- In LINE_OK a waiting vent that may move and that no call reaches waits on, or is announced. -/
theorem Turns.waits (h : Turns call down v s t) (hn : ∀ x, x.image = s.image → ¬ call x)
    (hl : down = false) (hs : s.vents[v.val].state = .waitSupply ∨ s.vents[v.val].state = .announced)
    {d : Dir} {k : RunKind} (hw : s.wants v = some (d, k)) (hp : s.vents[v.val].permits d = true) : Waits v s t := by
  have same : SameView v s s := ⟨rfl, rfl, fun _ _ => rfl, rfl, rfl, rfl, rfl⟩
  induction h with
  | refl => exact ⟨hs, ⟨rfl, rfl, rfl⟩, same⟩
  | @tail t u _ m ih =>
    refine ih.trans ?_
    cases m with
    | keeps k =>
      have e := k.vent
      exact ⟨by rw [e]; exact ih.state, by rw [e]; exact ⟨rfl, rfl, rfl⟩, k.sameView⟩
    | hand _ k => exact absurd k (hn _ ih.view.image)
    | given _ _ _ k => rw [hl] at k; cases k
    | announced _ _ _ =>
      exact ⟨by rw [announce_same]; exact .inr rfl, by rw [announce_same]; exact ⟨rfl, rfl, rfl⟩, rfl, rfl, fun _ _ => rfl,
        by rw [announce_same]; exact ⟨rfl, rfl, rfl, rfl⟩⟩
    | back _ _ =>
      rw [returnStart_waiting (by rw [ih.view.wants]; exact hw) (by rw [Vent.permits, ih.items.2.1]; exact hp)]
      exact ⟨by simp, by simp, rfl, rfl, fun _ _ => rfl, by rw [updVent_same]; exact ⟨rfl, rfl, rfl, rfl⟩⟩

/-! ### Events that only the Drive Unit acts in -/

/-- R44: the position a channel has reached when an event begins. -/
theorem chanPos_tick (s : State) (dt : Micros) (v : VentId) (c : ChanId) : (s.tick dt).chanPos v c = s.reached dt v c := by
  unfold State.chanPos State.reached
  simp only [State.tick, State.withEvent_chans, State.withNow_chans, State.withEvent_vents, State.withNow_vents,
    State.withEvent_now, State.withNow_now]
  rcases s.chans[c].driven with _ | _ | _ <;> rcases s.chans[c].startPos with _ | p <;> rfl

/-- R38: the intermediate-stop count saturates at 8. -/
theorem saturate_stops (x : Nat) : saturate Config.stopLimit x = if x < 8 then x + 1 else x := rfl

/-- R37: the vent that drives a channel. -/
theorem driving_of (hs : s.DriveLaw) {c : ChanId} {d : Dir} (hc : c ∈ s.channels v) (hd : s.chans[c.val].driven = some d) :
    s.driving c = some (v, d) := by
  have ho : s.owner c = some v := by
    rcases e : s.owner c with _ | w
    · have all : v ∈ eight := by clear hc; revert v; decide
      have := List.find?_eq_none.1 e v all
      simp at this; exact absurd hc this
    · by_cases k : w = v
      · rw [k]
      · exact absurd hc (hs.1 w v k c (owner_mem e))
  unfold State.driving
  rw [ho, Fin.getElem_fin, hd]

theorem onDriven_of (hs : s.DriveLaw) {c : ChanId} {d : Dir} (hc : c ∈ s.channels v) (hd : s.chans[c.val].driven = some d)
    (f : VentId → Dir → State → State) : onDriven c f s = f v d s := by
  unfold onDriven; rw [driving_of hs hc hd]

/-- A command of the Drive Unit for one vent: what it leaves, and that nothing else of the event's causes has changed. -/
theorem Moves.calm {ph : Phase} (m : Moves ph True v s t) (hd : s.DriveLaw)
    (hl : t.vents[v.val].state = .locked ↔ s.vents[v.val].state = .locked) (hh : t.held v = s.held v) : Calm s t := by
  refine .of_still m.still (fun w hw => ?_) hl hh
  exact (Moves.keeps m hd hw).vent

end Sys2Proof.Machine
end

section
/-! SUPPORT. A vent's run stopped by a verdict of its own command (R44 to R52), and what the completion of that command leaves
of it. -/

namespace Sys2Proof.Machine

open Relation

variable {v : VentId} {c : ChanId} {d : Dir} {s t : State} {dt : Micros} {call : State → Prop} {down : Bool}

theorem sources_of_still (h : t.still = s.still) : t.sources = s.sources := (congrArg State.sources h :)

/-- R44: every channel of the vent stands still, where it was when the event began. -/
def StoppedAt (v : VentId) (f : ChanId → Position) (s t : State) : Prop :=
  ∀ e ∈ s.channels v, t.chans[e.val].driven = none ∧
    t.chans[e.val].estimate = if s.chans[e.val].driven.isSome then f e else s.chans[e.val].estimate

theorem stopDriven_stoppedAt (v : VentId) (f : ChanId → Position) (s : State) : StoppedAt v f s (stopDriven v f s) := by
  intro e he
  rw [stopDriven_get, if_pos he]
  split
  · exact ⟨rfl, rfl⟩
  · next k => exact ⟨by simpa using k, rfl⟩

theorem stoppedAt_here {e : ChanId} (h : t.chans[e.val].driven = none ∧
    t.chans[e.val].estimate = if s.chans[e.val].driven.isSome then s.chanPos v e else s.chans[e.val].estimate) :
    t.chans[e.val].driven = none ∧ t.chans[e.val].estimate = s.chanPos v e := by
  obtain ⟨h1, h2⟩ := h
  refine ⟨h1, h2.trans ?_⟩
  split
  · rfl
  · next k =>
    have k : s.chans[e.val].driven = none := by simpa using k
    simp only [State.chanPos, Fin.getElem_fin, k]

theorem StoppedAt.here (h : StoppedAt v (s.chanPos v) s t) {e : ChanId} (he : e ∈ s.channels v) :
    t.chans[e.val].driven = none ∧ t.chans[e.val].estimate = s.chanPos v e := stoppedAt_here (h e he)

/-! ### The commands for a driven channel -/

/-- The state in which a command of the Drive Unit acts on a channel its vent drives. -/
structure Drives (s : State) (v : VentId) (c : ChanId) (d : Dir) : Prop where
  lawful : s.DriveLaw
  station : s.boot.station = .run
  mem : c ∈ s.channels v
  driven : s.chans[c.val].driven = some d

namespace Drives

theorem running (h : Drives s v c d) : s.vents[v.val].state.running = true := by
  rw [h.lawful.runs h.mem h.driven]; exact running_runState d

theorem start (h : Drives s v c d) : ∀ a, s.supply.start = some a → a.vent ≠ v :=
  h.lawful.start_ne fun k => by have := h.running; rw [k] at this; cases this

theorem tick (h : Drives s v c d) (dt : Micros) : Drives (s.tick dt) v c d := ⟨h.lawful, h.station, h.mem, h.driven⟩

theorem onDriven (h : Drives s v c d) (f : VentId → Dir → State → State) : onDriven c f s = f v d s :=
  onDriven_of h.lawful h.mem h.driven f

end Drives

theorem plainEvent_taken {taken : State → Bool} {f : State → State} (h : taken (s.tick dt) = true) :
    plainEvent dt taken f s = .next (finish Causes.none (s.tick dt) (f (s.tick dt))) :=
  event_taken dt taken _ f s h

theorem inRun_of (h : s.boot.station = .run) : (s.tick dt).inRun = true := by
  rw [State.inRun]; exact decide_eq_true h

theorem due_of {x : Option Micros} {e : Micros} (hx : x = some e) (he : e ≤ s.now + dt) : due x (s.tick dt).now = true := by
  subst hx; exact decide_eq_true he

theorem exec_shortDetected (h : Drives s v c d) :
    exec (.shortDetected dt c) s = .next (finish Causes.none (s.tick dt) (short v (s.tick dt))) := by
  rw [exec, execShortDetected, plainEvent_taken (inRun_of h.station), (h.tick dt).onDriven]

theorem exec_channelCurrentReading (h : Drives s v c d) (m : Nat) :
    exec (.channelCurrentReading dt c m) s = .next (finish Causes.none (s.tick dt) (takeReading v c m (s.tick dt))) := by
  rw [exec, execChannelCurrentReading, plainEvent_taken (inRun_of h.station), (h.tick dt).onDriven]

theorem exec_stallFilterExpiry (h : Drives s v c d) {e : Micros} (hx : s.chans[c.val].stallFilter = some e) (he : e ≤ s.now + dt) :
    exec (.stallFilterExpiry dt c) s = .next (finish Causes.none (s.tick dt) (stall v (s.tick dt))) := by
  rw [exec, execStallFilterExpiry, plainEvent_taken (Bool.and_eq_true_iff.2 ⟨inRun_of h.station, due_of hx he⟩),
    (h.tick dt).onDriven]

theorem exec_endFilterExpiry (h : Drives s v c d) {e : Micros} (hx : s.chans[c.val].endFilter = some e) (he : e ≤ s.now + dt) :
    exec (.endFilterExpiry dt c) s = .next (finish Causes.none (s.tick dt) (anchor v c d (s.tick dt))) := by
  rw [exec, execEndFilterExpiry, plainEvent_taken (Bool.and_eq_true_iff.2 ⟨inRun_of h.station, due_of hx he⟩),
    (h.tick dt).onDriven]

theorem exec_startWindowEnd (h : Drives s v c d) {e : Micros} (hx : s.chans[c.val].window = some e) (he : e ≤ s.now + dt) :
    exec (.startWindowEnd dt c) s = .next (finish Causes.none (s.tick dt) (endWindow v c d (s.tick dt))) := by
  rw [exec, execStartWindowEnd, plainEvent_taken (Bool.and_eq_true_iff.2 ⟨inRun_of h.station, due_of hx he⟩),
    (h.tick dt).onDriven]

/-! ### What a stop of its own makes of a vent (R50 to R52) -/

/-- R38: the items of a vent with one intermediate stop more. -/
def Vent.counted (x : Vent) : Vent := { x with stops := saturate Config.stopLimit x.stops }

theorem Vent.counted_stops (x : Vent) : x.counted.stops = if x.stops < 8 then x.stops + 1 else x.stops := rfl

theorem countStop_same (v : VentId) (s : State) : (countStop v s).vents[v.val] = s.vents[v.val].counted := by
  rw [countStop_get, if_pos rfl]; rfl

theorem short_same (v : VentId) (s : State) : (short v s).vents[v.val] = Vent.lock .short s.vents[v.val].counted := by
  simp only [short, toLocked, updVent_same, countStop_same, stopInPlace_vents]; rfl

theorem short_chans (v : VentId) (s : State) : (short v s).chans = (stopInPlace v s).chans := rfl

theorem stall_same (v : VentId) (s : State) : (stall v s).vents[v.val] =
    if s.vents[v.val].retries < 3 then Vent.cool s.now s.vents[v.val].counted
    else Vent.lock .stallLimit s.vents[v.val].counted := by
  have e : (countStop v (stopInPlace v s)).vents[v.val] = s.vents[v.val].counted := by
    rw [countStop_same, stopInPlace_vents]
  have n : (countStop v (stopInPlace v s)).now = s.now := now_of_still (stopInPlace_still v s)
  have r : (countStop v (stopInPlace v s)).vents[v].retries = s.vents[v.val].retries := by rw [Fin.getElem_fin, e]; rfl
  unfold stall
  simp only [r, Config.stallRetries]
  split
  · rw [updVent_same, e, n]; rfl
  · simp only [toLocked, updVent_same, e]; rfl

theorem stall_chans (v : VentId) (s : State) : (stall v s).chans = (stopInPlace v s).chans := by
  unfold stall; simp only; split <;> rfl

/-! ### A vent locked by its own command -/

/-- A vent that its command has locked is left so by the completion, its channels where they stopped. -/
theorem locks_and_stays {x : State} {ph : Phase} (hd : s.DriveLaw) (m : Moves ph True v (s.tick dt) x)
    (hl : x.vents[v.val].state = .locked) :
    StaysLocked v x (finish Causes.none (s.tick dt) x) ∧ (finish Causes.none (s.tick dt) x).sources = (s.tick dt).sources :=
  ⟨Path.staysLocked (finish_path _ _ fun _ => m.obeys (fun _ => hd) trivial) (m.obeys (fun _ => hd) trivial) hl,
    (finish_sources _ _ _).trans (sources_of_still m.still)⟩

/-- What the completion makes of a vent whose command leaves its demand and its lock alone. -/
theorem finish_turns_of {x : State} (hi : x.still = (s.tick dt).still) (hd : x.DriveLaw)
    (ho : ∀ w : VentId, w ≠ v → x.vents[w.val] = s.vents[w.val])
    (hl : x.vents[v.val].state = .locked ↔ s.vents[v.val].state = .locked) (hh : x.held v = s.held v) :
    Turns (FireCall (s.tick dt) v) (s.tick dt).lineDown v x (finish Causes.none (s.tick dt) x) :=
  finish_turns _ (.of_still hi ho hl hh) (by rw [line_of_still hi]) hd v

/-! ### A channel that is not driven (R44) -/

/-- In LINE_OK the completion drives no channel: one that stands still stays where it is. -/
theorem Turn.stands (h : Turn call down v s t) (hl : down = false) (hc : c ∈ s.channels v)
    (hd : s.chans[c.val].driven = none) : t.chans[c.val].driven = none ∧ t.chans[c.val].estimate = s.chans[c.val].estimate := by
  have moves : ∀ {u : State}, Moves .settle True v s u →
      u.chans[c.val].driven = none ∧ u.chans[c.val].estimate = s.chans[c.val].estimate := by
    intro u p
    induction p with
    | refl => exact ⟨hd, rfl⟩
    | tail _ m ih =>
      rcases m.chan_cases c with ⟨e1, -, e2⟩ | ⟨-, d, k, hb, -⟩ | ⟨-, e, -⟩
      · rw [e1, e2]; exact ih
      · rcases (hb.origin trivial).2 with ⟨k, -⟩ | ⟨k, -, -⟩ <;> cases k
      · rw [ih.1] at e; cases e
  cases h with
  | keeps h => rw [h.chans c hc]; exact ⟨hd, rfl⟩
  | hand hd _ => exact moves (handOnVent_moves fun _ => hd)
  | given _ _ _ h => rw [hl] at h; cases h
  | announced _ _ _ => exact ⟨hd, rfl⟩
  | back _ ha => exact moves (returnStart_moves fun _ => ha)

theorem Turn.image (h : Turn call down v s t) : t.image = s.image := by
  cases h with
  | keeps h => exact h.image
  | hand hd _ => exact image_of_still (handOnVent_moves (lawful := True) fun _ => hd).still
  | given hd hw hr hl =>
    rcases giveStart_cases v s with ⟨-, e⟩ | ⟨d, k, -, ⟨-, e⟩ | ⟨-, e⟩⟩ <;> rw [e]
    · rfl
    · exact image_of_still (beginRun_still v d k (endStart s))
    · rfl
  | announced _ _ _ => rfl
  | back _ ha => exact image_of_still (returnStart_moves (ph := .settle) (lawful := True) fun _ => ha).still

theorem Turns.stands (h : Turns call down v s t) (hl : down = false) (hc : c ∈ s.channels v)
    (hd : s.chans[c.val].driven = none) : t.chans[c.val].driven = none ∧ t.chans[c.val].estimate = s.chans[c.val].estimate := by
  have : t.image = s.image ∧ t.chans[c.val].driven = none ∧ t.chans[c.val].estimate = s.chans[c.val].estimate := by
    induction h with
    | refl => exact ⟨rfl, hd, rfl⟩
    | tail _ m ih =>
      obtain ⟨h1, h2, h3⟩ := ih
      obtain ⟨k1, k2⟩ := m.stands hl (by rw [State.channels, State.cfg, h1]; exact hc) h2
      exact ⟨m.image.trans h1, k1, k2.trans h3⟩
  exact this.2

/-! ### An event that leaves everything as its command left it -/

/-- A channel's filters, its reading or its start window have changed, and nothing else. -/
structure Filtered (before s : State) : Prop where
  rest : s = before.withChans s.chans
  chans : ∀ c : ChanId, s.chans[c.val].driven = before.chans[c.val].driven ∧ s.chans[c.val].inrush = before.chans[c.val].inrush

theorem Filtered.refl (s : State) : Filtered s s := ⟨rfl, fun _ => ⟨rfl, rfl⟩⟩

namespace Filtered

variable {before : State} (h : Filtered before s)
include h

theorem still : s.still = before.still := by rw [h.rest]; rfl
theorem vents : s.vents = before.vents := by rw [h.rest]; rfl
theorem supply : s.supply = before.supply := by rw [h.rest]; rfl

theorem calm : Calm before s := .of_still (v := 0) h.still (fun _ _ => by rw [h.vents]) (by rw [h.vents])
  (by simp only [State.held, h.vents])

theorem recomputeDue : recomputeDue before s = false := by
  unfold Machine.recomputeDue
  simp only [area_of_still h.still, h.vents, effective_of_still h.still, windward_of_still h.still, weather_of_still h.still,
    peers_of_still h.still, bne_self_eq_false, Bool.or_false, Bool.and_false, Bool.false_or, Bool.or_eq_false_iff,
    List.any_eq_false]
  refine ⟨⟨fun _ _ => by simp, fun _ _ => by simp⟩, fun n _ => ?_⟩
  split <;> simp_all

theorem frameLeft : frameLeft before s = false := by
  unfold Machine.frameLeft
  rw [line_of_still h.still, List.any_eq_false]
  intro q hq
  simp only [Bool.not_eq_true', Bool.not_eq_false, List.any_eq_true, beq_iff_eq]
  exact ⟨q, hq, rfl⟩

theorem preCheckDue : preCheckDue before s = false := by
  have h1 : waitingChanged before s = false := by
    unfold waitingChanged State.waits
    simp [h.vents, used_of_still h.still]
  have h2 : startEnded before s = false := by simp [startEnded, h.supply]
  have h3 : channelFreed before s = false := by
    unfold channelFreed
    rw [List.any_eq_false]
    intro c _
    obtain ⟨e1, e2⟩ := h.chans c
    simp only [Fin.getElem_fin, e1, e2]
    cases before.chans[c.val].driven <;> cases before.chans[c.val].inrush <;> simp
  have h4 : peersChanged before s = false := by simp [peersChanged, peers_of_still h.still]
  unfold Machine.preCheckDue
  rw [h1, h2, h3, h4, h.frameLeft, line_of_still h.still]
  simp

theorem sumDriven (f : VentCfg → Channel → Nat) (hf : ∀ k x y, x.driven = y.driven → x.inrush = y.inrush → f k x = f k y) :
    s.sumDriven f = before.sumDriven f := by
  unfold State.sumDriven
  congr 1
  funext v
  congr 1
  rw [channels_of_still h.still]
  refine List.map_congr_left fun c _ => ?_
  obtain ⟨e1, e2⟩ := h.chans c
  simp only [Fin.getElem_fin, e1, cfg_of_still h.still, hf _ _ _ e1 e2]

theorem drawContent : s.drawContent = before.drawContent := by
  have e1 : s.ownRunning = before.ownRunning := h.sumDriven _ fun k x y _ e => by simp only [e]
  have e2 : s.ownInrush = before.ownInrush := h.sumDriven _ fun k x y _ e => by simp only [e]
  have e3 : s.pendingClass = before.pendingClass := by rw [h.rest]; rfl
  have e4 : ∀ v, s.startDraw v = before.startDraw v := fun v => by
    simp only [State.startDraw, cfg_of_still h.still, channels_of_still h.still]
  simp only [State.drawContent, e1, e2, e3, h.supply, e4]

theorem schedule : schedule before s = s := by rw [Machine.schedule, h.preCheckDue]; rfl

theorem rebalance : rebalance false before s = s := by
  rw [Machine.rebalance, Bool.false_and, Bool.false_and, if_neg Bool.false_ne_true, h.calm.settleDemands]

/-- Nothing is due after such a command. -/
theorem decideStarts : decideStarts Causes.none before s = (s, false) := by
  have e : balanceDue Causes.none before s s = false := by
    simp only [balanceDue, Causes.none, h.recomputeDue, bne_self_eq_false]; rfl
  simp only [Machine.decideStarts, h.calm.align, e, h.rebalance, h.schedule, (Filtered.refl s).recomputeDue,
    (Filtered.refl s).rebalance,
    (Filtered.refl s).schedule, Bool.or_false]

theorem drawDue : drawDue before s = false := by
  have e : (before.lineDown && s.line.state == .ok) = false := by
    rw [line_of_still h.still]
    unfold State.lineDown
    cases before.line.state <;> rfl
  simp [Machine.drawDue, e, h.supply, h.drawContent, h.frameLeft]

theorem sendFrames (hr : before.boot.station = .run) : sendFrames Causes.none before false s = s := by
  have e0 : passage before s = false := by simp [passage, hr]
  have e1 : sendDraw before s = s := by simp [sendDraw, h.drawDue]
  have e2 : sendStatus Causes.none before s = s := by simp [sendStatus, Causes.none, e0]
  have e3 : sendArea Causes.none false s = s := by
    unfold sendArea
    split
    · rfl
    · simp [Causes.none]
  have e4 : sendWeather Causes.none before s = s := by
    simp [sendWeather, Causes.none, e0, weather_of_still h.still]
  rw [Machine.sendFrames, e1, e2, e3, e4]
  rfl

/-- The completion leaves the Drive Unit as the command did. -/
theorem finish (hr : before.boot.station = .run) : (finish Causes.none before s).vents = s.vents ∧
    (Machine.finish Causes.none before s).chans = s.chans ∧ (Machine.finish Causes.none before s).sources = s.sources := by
  have e : decided Causes.none before s = s := by simp only [decided, h.decideStarts, h.sendFrames hr]
  have src := finish_sources Causes.none before s
  rw [finish_eq, e] at src ⊢
  have a := (writeRetention_aside before s).trans (syncOutputs_aside before _)
  exact ⟨a.vents, a.chans, src⟩

end Filtered

end Sys2Proof.Machine
end

section
/-! CERTIFICATES. Shorts, stalls, anchors and run limits (O53, O54, O55). -/

open Sys2Proof Sys2Proof.Machine

/-- R51: a short of a driven channel, once its vent is known. -/
theorem short_locks {s : State} {v : VentId} {c : ChanId} {d : Dir} {dt : Micros} (h : Drives s v c d) :
    let t := finish Causes.none (s.tick dt) (short v (s.tick dt))
    t.vents[v.val].state = .locked ∧ t.vents[v.val].fault = .short ∧
      t.vents[v.val].stops = (if s.vents[v.val].stops < 8 then s.vents[v.val].stops + 1 else s.vents[v.val].stops) ∧
      t.vents[v.val].retries = s.vents[v.val].retries ∧
      (∀ e ∈ s.channels v, t.chans[e.val].driven = none ∧ t.chans[e.val].estimate = s.reached dt v e) ∧
      t.sources = (s.tick dt).sources := by
  have m := short_moves (lawful := True) (fun _ => (h.tick dt).running) fun _ => (h.tick dt).start
  obtain ⟨⟨h1, ⟨h2, h3, h4⟩, h5⟩, h6⟩ := locks_and_stays h.lawful m (by rw [short_same]; rfl)
  rw [short_same] at h2 h3 h4
  refine ⟨h1, h2, h3, h4, fun e he => ?_, h6⟩
  rw [h5 e (by rw [channels_of_still m.still]; exact he), ← chanPos_tick, short_chans]
  exact (stopDriven_stoppedAt v _ (s.tick dt)).here he

/-- Settles O53: the vent's stop is the arithmetic of R44, and no move of the completion takes a vent out of LOCKED
(`Path.staysLocked`). -/
theorem shortLocks : Obligations.ShortLocks := by
  intro dt v c d s hs hr hc hd i hi
  have h : Drives s v c d := ⟨hs, hr, hc, hd⟩
  refine ⟨_, ?_, short_locks (dt := dt) h⟩
  rcases hi with rfl | ⟨m, hm, rfl⟩
  · exact exec_shortDetected h
  · rw [exec_channelCurrentReading h, takeReading, if_pos (show Config.shortMilliamps ≤ m from hm)]

/-- R50: a stall of a driven channel, once its vent is known. -/
theorem stall_counts {s : State} {v : VentId} {c : ChanId} {d : Dir} {dt : Micros} (h : Drives s v c d)
    (hp : (s.tick dt).firePatternHolds v) :
    let t := finish Causes.none (s.tick dt) (stall v (s.tick dt))
    (s.vents[v.val].retries < 3 → t.vents[v.val].state = .stalled ∧ t.vents[v.val].retries = s.vents[v.val].retries + 1 ∧
        t.vents[v.val].coolEnds = some (s.now + dt + 5000000)) ∧
      (3 ≤ s.vents[v.val].retries → t.vents[v.val].state = .locked ∧ t.vents[v.val].fault = .stallLimit ∧
        t.vents[v.val].retries = s.vents[v.val].retries) ∧
      t.vents[v.val].stops = (if s.vents[v.val].stops < 8 then s.vents[v.val].stops + 1 else s.vents[v.val].stops) ∧
      (∀ e ∈ s.channels v, t.chans[e.val].driven = none ∧ t.chans[e.val].estimate = s.reached dt v e) ∧
      t.sources = (s.tick dt).sources := by
  have m := stall_moves (lawful := True) (fun _ => (h.tick dt).running) fun _ => (h.tick dt).start
  have hd : (stall v (s.tick dt)).DriveLaw := m.obeys (fun _ => h.lawful) trivial
  have same := stall_same v (s.tick dt)
  have ch : ∀ e, e ∈ s.channels v ↔ e ∈ (stall v (s.tick dt)).channels v := fun e => by
    rw [channels_of_still m.still]; rfl
  have stands : ∀ {t : State}, (∀ e ∈ (stall v (s.tick dt)).channels v, t.chans[e.val] = (stall v (s.tick dt)).chans[e.val]) →
      ∀ e ∈ s.channels v, t.chans[e.val].driven = none ∧ t.chans[e.val].estimate = s.reached dt v e := fun k e he => by
    rw [k e ((ch e).1 he), ← chanPos_tick, stall_chans]
    exact (stopDriven_stoppedAt v _ (s.tick dt)).here he
  by_cases hr : s.vents[v.val].retries < 3
  · rw [if_pos (show (s.tick dt).vents[v.val].retries < 3 from hr)] at same
    have k : Keeps v (stall v (s.tick dt)) (finish Causes.none (s.tick dt) (stall v (s.tick dt))) := by
      refine (finish_turns_of m.still hd (fun w hw => (Moves.keeps m h.lawful hw).vent) ?_ ?_).unmoved (fun x k f => ?_) ?_
      · rw [same, h.lawful.runs h.mem h.driven]
        cases d <;> exact ⟨nofun, nofun⟩
      · simp only [State.held, Fin.getElem_fin, same]; rfl
      · refine (f.called hp).2 ?_
        rw [k.vent, same]; rfl
      · rw [same]; exact ⟨nofun, nofun⟩
    have e := k.vent
    rw [same] at e
    refine ⟨fun _ => ?_, fun k => absurd hr (by omega), by rw [e]; rfl, stands k.chans,
      (finish_sources Causes.none _ _).trans (sources_of_still m.still)⟩
    rw [e]
    exact ⟨rfl, rfl, rfl⟩
  · rw [if_neg (show ¬ (s.tick dt).vents[v.val].retries < 3 from hr)] at same
    obtain ⟨⟨h1, ⟨h2, h3, h4⟩, h5⟩, h6⟩ := locks_and_stays h.lawful m (by rw [same]; rfl)
    rw [same] at h2 h3 h4
    exact ⟨fun k => absurd k hr, fun _ => ⟨h1, h2, h4⟩, h3, stands h5, h6⟩

/-- Settles O54: the vent's stop is the arithmetic of R44; a STALLED vent is not eligible, so that no call of the event hands it
another demand (R92), and a LOCKED one stays so. -/
theorem stallCounts : Obligations.StallCounts := by
  intro dt v c d e s hs ha hr hc hd hf he
  have h : Drives s v c d := ⟨hs, hr, hc, hd⟩
  exact ⟨_, exec_stallFilterExpiry h hf he, stall_counts h (ha.2.2 v).1⟩

end

section
/-! SUPPORT. A channel's anchor, its verdicts and its filters (R46, R48 to R50), and what the completion leaves of them. -/

namespace Sys2Proof.Machine

open Relation

variable {v : VentId} {c : ChanId} {d : Dir} {s t : State} {dt : Micros}

/-! ### A vent evaluated (R40) -/

/-- R40: an evaluated vent is at rest, waits or dwells, with its counts and the direction of its last run. -/
theorem evaluate_same (v : VentId) (s : State) :
    ((evaluate v s).vents[v.val].state = .idle ∨ (evaluate v s).vents[v.val].state = .waitSupply ∨
        (evaluate v s).vents[v.val].state = .dwell) ∧
      (evaluate v s).vents[v.val].stops = s.vents[v.val].stops ∧ (evaluate v s).vents[v.val].retries = s.vents[v.val].retries ∧
      (evaluate v s).vents[v.val].lastDir = s.vents[v.val].lastDir := by
  rcases evaluate_cases v s with ⟨-, e⟩ | ⟨d, k, -, ⟨-, e⟩ | ⟨-, e⟩⟩ <;> rw [e] <;> simp [toIdle, toWait, toDwell]

@[simp] theorem evaluate_chans (v : VentId) (s : State) : (evaluate v s).chans = s.chans := by
  rcases evaluate_cases v s with ⟨-, e⟩ | ⟨d, k, -, ⟨-, e⟩ | ⟨-, e⟩⟩ <;> rw [e] <;> rfl

@[simp] theorem evaluate_still (v : VentId) (s : State) : (evaluate v s).still = s.still := by
  rcases evaluate_cases v s with ⟨-, e⟩ | ⟨d, k, -, ⟨-, e⟩ | ⟨-, e⟩⟩ <;> rw [e] <;> rfl

theorem evaluate_other {w : VentId} (h : w ≠ v) (s : State) : (evaluate v s).vents[w.val] = s.vents[w.val] := by
  rcases evaluate_cases v s with ⟨-, e⟩ | ⟨d, k, -, ⟨-, e⟩ | ⟨-, e⟩⟩ <;> rw [e] <;> exact updVent_other s h _

theorem evaluate_running (v : VentId) (s : State) : (evaluate v s).vents[v.val].state.running = false := by
  rcases (evaluate_same v s).1 with e | e | e <;> rw [e] <;> rfl

/-! ### A reading and its filters (R48 to R50) -/

/-- Only the channel's reading, its start window and its filters change. -/
theorem updChan_filtered (s : State) (c : ChanId) (f : Channel → Channel)
    (h : (f s.chans[c.val]).driven = s.chans[c.val].driven ∧ (f s.chans[c.val]).inrush = s.chans[c.val].inrush) :
    Filtered s (s.updChan c f) := by
  refine ⟨rfl, fun e => ?_⟩
  rw [updChan_get]
  split
  · next k => subst k; exact h
  · exact ⟨rfl, rfl⟩

/-- What such a command leaves, with everything else as it was. -/
theorem finish_filtered {f : Channel → Channel} (hr : s.boot.station = .run)
    (h : (f s.chans[c.val]).driven = s.chans[c.val].driven ∧ (f s.chans[c.val]).inrush = s.chans[c.val].inrush) :
    let t := finish Causes.none (s.tick dt) ((s.tick dt).updChan c f)
    t.chans[c.val] = f s.chans[c.val] ∧ (∀ o : ChanId, o ≠ c → t.chans[o.val] = s.chans[o.val]) ∧ t.vents = s.vents ∧
      t.sources = (s.tick dt).sources := by
  have q := updChan_filtered (s.tick dt) c f h
  obtain ⟨h1, h2, h3⟩ := q.finish hr
  simp only [h2]
  exact ⟨updChan_same _ c f, fun o ho => updChan_other _ ho f, h1.trans q.vents, h3.trans (sources_of_still q.still)⟩

theorem filters_eq (x : Channel) (m : Nat) (now : Micros) : x.filters m now = { x with
    endFilter := if x.reading < 50 then some (x.endFilter.getD (now + 200000)) else none
    stallFilter := if m ≤ x.reading then some (x.stallFilter.getD (now + 500000)) else none } := by
  unfold Channel.filters
  cases x.endFilter <;> cases x.stallFilter <;> rfl

/-- R48 to R50: the items of a channel after a reading below the short threshold. -/
def Channel.read (x : Channel) (m stallMilliamps : Nat) (now : Micros) : Channel :=
  let x := { x with reading := m }
  match x.window with
  | some _ => if Config.idleMilliamps ≤ m then { x with drew := true } else x
  | none => x.filters stallMilliamps now

theorem takeReading_eq {m : Nat} (h : m < 12000) (v : VentId) (c : ChanId) (s : State) :
    takeReading v c m s = s.updChan c fun x => x.read m (s.cfg v).stallMilliamps s.now := by
  rw [takeReading, if_neg (show ¬ Config.shortMilliamps ≤ m by rw [Config.shortMilliamps]; omega)]
  rfl

theorem read_window {x : Channel} (h : x.window.isSome = true) (m l : Nat) (now : Micros) :
    x.read m l now = { x with reading := m, drew := x.drew || decide (50 ≤ m) } := by
  obtain ⟨w, hw⟩ := Option.isSome_iff_exists.1 h
  unfold Channel.read
  simp only [hw, Config.idleMilliamps]
  split
  · next k => simp [k]
  · next k => simp [k]

theorem read_filters {x : Channel} (h : x.window = none) (m l : Nat) (now : Micros) :
    x.read m l now = { x with
      reading := m
      endFilter := if m < 50 then some (x.endFilter.getD (now + 200000)) else none
      stallFilter := if l ≤ m then some (x.stallFilter.getD (now + 500000)) else none } := by
  unfold Channel.read
  simp only [h]
  exact filters_eq _ _ _

theorem read_kept (x : Channel) (m l : Nat) (now : Micros) :
    (x.read m l now).driven = x.driven ∧ (x.read m l now).inrush = x.inrush ∧ (x.read m l now).reading = m := by
  rcases e : x.window with _ | w
  · rw [read_filters e]; exact ⟨rfl, rfl, rfl⟩
  · rw [read_window (by rw [e]; rfl)]; exact ⟨rfl, rfl, rfl⟩

/-! ### The verdicts of a start window (R48) -/

theorem endWindow_verdict (hn : s.chans[c.val].drew = false) :
    endWindow v c d s = match windowVerdict s.chans[c.val].startPos d with
      | .anchored => anchor v c d s
      | .openCircuit => openCircuit v c s := by
  unfold endWindow
  rw [if_neg (by rw [Fin.getElem_fin, hn]; decide)]
  rfl

/-- R48: the position p is within 50 of the end that direction d leads to. -/
def nearEnd (d : Dir) (p : Nat) : Prop :=
  match d with
  | .opening => 950 ≤ p
  | .closing => p ≤ 50

theorem windowVerdict_anchored {p0 : Position} (h : ∀ p, p0 = some p → nearEnd d p) : windowVerdict p0 d = .anchored := by
  rcases p0 with _ | p
  · rfl
  · have := h p rfl
    cases d <;> exact if_pos this

theorem windowVerdict_open {p : Nat} (h : ¬ nearEnd d p) : windowVerdict (some p) d = .openCircuit := by
  cases d <;> exact if_neg h

theorem openCircuit_same (v : VentId) (c : ChanId) (s : State) :
    (openCircuit v c s).vents[v.val] = Vent.lock .openCircuit s.vents[v.val] := by
  simp only [openCircuit, toLocked, updVent_same, stopDriven_vents]; rfl

theorem openCircuit_stops (v : VentId) (c : ChanId) (s : State) :
    StoppedAt v (fun e => if e = c then s.chans[c.val].startPos else s.chanPos v e) s (openCircuit v c s) :=
  stopDriven_stoppedAt v _ s

/-! ### An anchored channel (R46) -/

/-- R46: the vent runs on with a channel still driven, or its run ends with both counts 0. -/
theorem anchor_cases (v : VentId) (c : ChanId) (d : Dir) (s : State) :
    let x := s.updChan c fun x => x.stop (some d.endPos)
    (x.anyDriven v = true ∧ anchor v c d s = x) ∨
      (x.anyDriven v = false ∧ anchor v c d s = evaluate v (x.updVent v fun x => { x with stops := 0, retries := 0 })) := by
  unfold anchor
  simp only
  split
  · next h => exact .inl ⟨h, rfl⟩
  · next h => rw [evaluate_toIdle]; exact .inr ⟨by simpa using h, rfl⟩

theorem running_not_locked {x : VentState} (h : x.running = true) : x ≠ .locked := by rintro rfl; cases h

/-- R46: an anchored channel stands at the end its run goes to. -/
theorem anchor_same (v : VentId) (c : ChanId) (d : Dir) (s : State) :
    (anchor v c d s).chans[c.val] = s.chans[c.val].stop (some d.endPos) := by
  have e := updChan_same s c fun x => x.stop (some d.endPos)
  rcases anchor_cases v c d s with ⟨-, k⟩ | ⟨-, k⟩ <;> rw [k]
  · exact e
  · simp only [evaluate_chans, updVent_chans]; exact e

/-- R46: what the completion sees of a vent whose channel is anchored. -/
theorem anchor_turns (h : Drives s v c d) :
    Turns (FireCall (s.tick dt) v) (s.tick dt).lineDown v (anchor v c d (s.tick dt))
      (finish Causes.none (s.tick dt) (anchor v c d (s.tick dt))) := by
  have hr := (h.tick dt).running
  have nl : s.vents[v.val].state ≠ .locked := running_not_locked hr
  have judged := anchor_judged (lawful := True) (dt := dt) (i := .endFilterExpiry dt c) (.inl rfl) (h.tick dt).mem
    (h.tick dt).driven fun _ => (h.tick dt).lawful
  obtain ⟨u, hu, p⟩ := judged
  have hd : (anchor v c d (s.tick dt)).DriveLaw := Path.obeys p (hu.obeys fun _ => (h.tick dt).lawful) trivial
  rcases anchor_cases v c d (s.tick dt) with ⟨-, e⟩ | ⟨-, e⟩ <;> rw [e] at hd ⊢
  · exact finish_turns_of rfl hd (fun _ _ => rfl) .rfl rfl
  · refine finish_turns_of (by simp) hd (fun w hw => ?_) ⟨fun k => ?_, fun k => absurd k nl⟩ ?_
    · rw [evaluate_other hw, updVent_other _ hw]; rfl
    · rcases (evaluate_same v _).1 with e | e | e <;> rw [e] at k <;> cases k
    · rw [evaluate_held, updVent_held]
      · rfl
      · exact ⟨rfl, rfl⟩

end Sys2Proof.Machine
end

section
/-! CERTIFICATES. Anchors, verdicts and filters (O55, O58). -/

open Sys2Proof Sys2Proof.Machine

/-- R46: an anchored channel stands at its end, and a run that ends with it leaves both counts at 0. -/
theorem anchor_ends {s t : State} {v : VentId} {c : ChanId} {d : Dir} {dt : Micros} (h : Drives s v c d)
    (hl : s.line.state = .ok) (ht : finish Causes.none (s.tick dt) (anchor v c d (s.tick dt)) = t) :
    t.chans[c.val].driven = none ∧ t.chans[c.val].estimate = some d.endPos ∧
      ((∀ o ∈ s.channels v, o ≠ c → s.chans[o.val].driven = none) → t.vents[v.val].stops = 0 ∧ t.vents[v.val].retries = 0) := by
  have down : (s.tick dt).lineDown = false := by
    rw [State.lineDown, show (s.tick dt).line.state = .ok from hl]; rfl
  have turns := anchor_turns (dt := dt) h
  rw [ht] at turns
  have same := anchor_same v c d (s.tick dt)
  have cases := anchor_cases v c d (s.tick dt)
  have img : (anchor v c d (s.tick dt)).image = s.image := by
    rcases cases with ⟨-, e⟩ | ⟨-, e⟩ <;> rw [e]
    · rfl
    · exact (image_of_still (evaluate_still v _)).trans rfl
  obtain ⟨h1, h2⟩ := turns.stands down (by rw [State.channels, State.cfg, img]; exact h.mem) (by rw [same]; rfl)
  refine ⟨h1, h2.trans (by rw [same]; rfl), fun others => ?_⟩
  rcases cases with ⟨k, -⟩ | ⟨-, e⟩
  · obtain ⟨o, ho, k⟩ := List.any_eq_true.1 k
    rw [Fin.getElem_fin, updChan_get] at k
    split at k
    · cases k
    · next ne => rw [show (s.tick dt).chans[o.val].driven = none from others o ho ne] at k; cases k
  · have r := (turns.rests down (by rw [e]; exact evaluate_running v _)).counts
    rw [e] at r
    obtain ⟨-, e1, e2, -⟩ := evaluate_same v (((s.tick dt).updChan c fun x => x.stop (some d.endPos)).updVent v fun x =>
      { x with stops := 0, retries := 0 })
    rw [r.1, r.2.1, e1, e2, updVent_same]
    exact ⟨rfl, rfl⟩

/-- R48: a start window that closes without current away from the end locks the vent. -/
theorem openCircuit_locks {s : State} {v : VentId} {c : ChanId} {d : Dir} {dt : Micros} (h : Drives s v c d) {p : Nat}
    (hp : s.chans[c.val].startPos = some p) :
    let t := finish Causes.none (s.tick dt) (openCircuit v c (s.tick dt))
    t.vents[v.val].state = .locked ∧ t.vents[v.val].fault = .openCircuit ∧ t.chans[c.val].driven = none ∧
      t.chans[c.val].estimate = some p ∧ t.vents[v.val].stops = s.vents[v.val].stops ∧
      ∀ o ∈ s.channels v, o ≠ c → t.chans[o.val].driven = none ∧ t.chans[o.val].estimate = s.reached dt v o := by
  have m := openCircuit_moves (lawful := True) c (fun _ => (h.tick dt).running) fun _ => (h.tick dt).start
  have same := openCircuit_same v c (s.tick dt)
  have stops := openCircuit_stops v c (s.tick dt)
  obtain ⟨⟨h1, ⟨h2, h3, h4⟩, h5⟩, -⟩ := locks_and_stays h.lawful m (by rw [same]; rfl)
  rw [same] at h2 h3
  have chan : ∀ e ∈ s.channels v, (finish Causes.none (s.tick dt) (openCircuit v c (s.tick dt))).chans[e.val] =
      (openCircuit v c (s.tick dt)).chans[e.val] := fun e he => h5 e (by rw [channels_of_still m.still]; exact he)
  obtain ⟨k1, k2⟩ := stops c h.mem
  refine ⟨h1, h2, by rw [chan c h.mem]; exact k1, ?_, h3, fun o ho hne => ?_⟩
  · rw [chan c h.mem, k2, show (s.tick dt).chans[c.val].driven = some d from h.driven]
    simp only [Option.isSome_some, if_true]
    exact hp
  · rw [chan o ho, ← chanPos_tick]
    have k := stops o ho
    simp only [if_neg hne] at k
    exact stoppedAt_here k

/-- Settles O55: an anchored channel is not driven, and in LINE_OK the completion drives none (`Turns.stands`); an open circuit
locks the vent, which stays so; and a reading's filters cause nothing else (`Filtered.finish`). -/
theorem channelAnchors : Obligations.ChannelAnchors := by
  intro dt v c d e s hs hr hl hc hd he
  have h : Drives s v c d := ⟨hs, hr, hc, hd⟩
  refine ⟨fun hf => ?_, fun hw hn hp => ?_, fun p hw hn hp hb => ?_, fun hw hn => ?_⟩
  · obtain ⟨h1, h2, h3⟩ := anchor_ends (dt := dt) h hl rfl
    exact ⟨_, exec_endFilterExpiry h hf he, h1, h2.trans (by cases d <;> rfl), h3⟩
  · obtain ⟨h1, h2, -⟩ := anchor_ends (dt := dt) h hl rfl
    refine ⟨_, exec_startWindowEnd h hw he, ?_⟩
    rw [endWindow_verdict (s := s.tick dt) hn, windowVerdict_anchored (d := d) (p0 := (s.tick dt).chans[c.val].startPos) hp]
    exact ⟨h1, h2.trans (by cases d <;> rfl)⟩
  · refine ⟨_, exec_startWindowEnd h hw he, ?_⟩
    have far : ¬ nearEnd d p := by cases d <;> simp only [nearEnd] at hb ⊢ <;> omega
    rw [endWindow_verdict (s := s.tick dt) hn, show (s.tick dt).chans[c.val].startPos = some p from hp, windowVerdict_open far]
    exact openCircuit_locks h hp
  · refine ⟨_, exec_startWindowEnd h hw he, ?_⟩
    rw [endWindow, if_pos (show (s.tick dt).chans[c].drew = true from hn)]
    obtain ⟨h1, h2, h3, h4⟩ := finish_filtered (s := s) (c := c) (dt := dt) (f := fun x =>
      ({ x with window := none }).filters ((s.tick dt).cfg v).stallMilliamps (s.tick dt).now) hr ⟨rfl, rfl⟩
    exact ⟨h1.trans (filters_eq _ _ _), h2, h3, h4⟩

/-- Settles O58: a reading below the short threshold changes its channel's filters, which cause nothing else in the event
(`Filtered.finish`). -/
theorem readingFilters : Obligations.ReadingFilters := by
  intro dt v c d m s hs hr hc hd hm
  have h : Drives s v c d := ⟨hs, hr, hc, hd⟩
  refine ⟨_, exec_channelCurrentReading h m, ?_⟩
  rw [takeReading_eq hm]
  have kept := read_kept s.chans[c.val] m ((s.tick dt).cfg v).stallMilliamps (s.tick dt).now
  obtain ⟨h1, h2, h3, h4⟩ := finish_filtered (s := s) (c := c) (dt := dt) (f := fun x =>
    x.read m ((s.tick dt).cfg v).stallMilliamps (s.tick dt).now) hr ⟨kept.1, kept.2.1⟩
  simp only [Fin.getElem_fin] at *
  rw [h1]
  refine ⟨kept.2.2, kept.1.trans hd, fun hw => ?_, fun hw => ?_, h2, h3, h4⟩
  · rw [read_window hw]; exact ⟨rfl, rfl, rfl⟩
  · rw [read_filters hw]; exact ⟨rfl, rfl⟩

end

section
/-! SUPPORT. The terminals as a completed read leaves them (R126, R130, R133, R134, R138). -/

namespace Sys2Proof.Machine

variable {s : State} {k : Image}

/-- The clamped image in the blocks that start before the terminals do. -/
def loaded (k : Image) (s : State) : State := writeWeatherRecords (loadRetention (s.withImage k))

theorem startRain_others (s : State) : (startRain s).terms = s.terms ∧ (startRain s).mains = s.mains := by
  unfold startRain; split <;> exact ⟨rfl, rfl⟩

theorem enterJoin_terms (k : Image) (s : State) (t : TermId) :
    (enterJoin k s).terms[t.val] = startTerm k.terms[t.val] s.pins[t.val] s.now := by
  have e : (enterJoin k s).terms = Vector.ofFn fun t : Fin 6 => startTerm ((loaded k s).fn t) (loaded k s).pins[t] (loaded k s).now :=
    (startRain_others _).1
  rw [e, Vector.getElem_ofFn]
  rfl

theorem enterJoin_mains (k : Image) (s : State) : (enterJoin k s).mains = (s.withImage k).startMains :=
  (startRain_others _).2

theorem enterJoin_rain (k : Image) (s : State) {t : TermId} (h : (s.withImage k).firstTerm .rainSense = some t) :
    (enterJoin k s).weather.rainConfirm =
      if s.pins[t.val] = s.weather.wetFiltered then none else some (s.now + 1000000) := by
  have e : (enterJoin k s).weather = (startRain (((loaded k s).withTerms (Vector.ofFn fun t : Fin 6 =>
      startTerm ((loaded k s).fn t) (loaded k s).pins[t] (loaded k s).now)).withMains (loaded k s).startMains)).weather := rfl
  have f : ∀ x y, (((loaded k s).withTerms x).withMains y).firstTerm .rainSense = some t := fun _ _ => h
  rw [e, startRain, f]
  rfl

theorem six_split (t : TermId) : six = six.take t.val ++ t :: six.drop (t.val + 1) ∧ ∀ j ∈ six.take t.val, j < t := by
  revert t; decide

/-- R124: the lowest-numbered terminal of a function is the one evaluated. -/
theorem firstTerm_lowest {f : TermFn} {t : TermId} (h : s.fn t = f) (hl : ∀ j : TermId, j < t → s.fn j ≠ f) :
    s.firstTerm f = some t := by
  obtain ⟨e, he⟩ := six_split t
  have none_before : (six.take t.val).find? (fun t => s.fn t == f) = none :=
    List.find?_eq_none.2 fun j hj => by simpa using hl j (he j hj)
  rw [State.firstTerm, e, List.find?_append, none_before, Option.none_or, List.find?_cons, beq_iff_eq.2 h]

theorem firstTerm_none {f : TermFn} (h : ∀ t : TermId, s.fn t ≠ f) : s.firstTerm f = none :=
  List.find?_eq_none.2 fun j _ => by simpa using h j

/-- R126, R130, R138: a terminal's items as evaluation begins, by its function. -/
theorem startTerm_eq (f : TermFn) (pin : Bool) (now : Micros) : startTerm f pin now =
    if f.isContact then { Term.reset with debounce := if pin then some (now + 50000) else none }
    else if f.isLoop then { Term.reset with loop := .watch } else Term.reset := by
  unfold startTerm Term.atPin
  split
  · cases pin <;> rfl
  · rfl

theorem isContact_iff (f : TermFn) : f.isContact = true ↔ f = .keyOpen ∨ f = .keyClose ∨ f = .resetButton ∨
    (∃ z, f = .callPoint z) ∨ ∃ m, f = .manualOpen m ∨ f = .manualClose m := by
  cases f <;> simp [TermFn.isContact]

theorem isLoop_iff (f : TermFn) : f.isLoop = true ↔ ∃ z, f = .smokeLoop z := by
  cases f <;> simp [TermFn.isLoop]

/-- R37: a channel of a used vent has that vent's owner. -/
theorem owner_isSome_iff (c : ChanId) : (s.owner c).isSome = true ↔ ∃ v, c ∈ s.channels v := by
  have all : ∀ v : VentId, v ∈ eight := by decide
  simp [State.owner, List.find?_isSome, all]

end Sys2Proof.Machine
end

section
/-! CERTIFICATES. The read that completes (O22). -/

open Sys2Proof Sys2Proof.Machine

/-- R61 to R63, R171 to R173: what JOIN begins with, for the vents and the channels. -/
theorem enterJoin_drives (k : Image) (s : State) :
    let t := enterJoin k s
    (∀ (v : VentId) (c : ChanId), c ∈ t.channels v →
      t.chans[c.val].estimate = s.retention[c.val] ∧ t.chans[c.val].driven = none ∧ t.retention[c.val] = s.retention[c.val]) ∧
    (∀ c : ChanId, (∀ v : VentId, c ∉ t.channels v) → t.retention[c.val] = none) ∧
    ∀ v : VentId, t.vents[v.val].state = .idle ∧ t.vents[v.val].lastDir = none ∧
      (t.vents[v.val].stops = 8 ↔ ∃ c ∈ t.channels v, s.retention[c.val].isSome = true) := by
  have owned : ∀ (v : VentId) (c : ChanId), c ∈ (enterJoin k s).channels v → ((enterJoin k s).owner c).isSome = true :=
    fun v c hc => (owner_isSome_iff c).2 ⟨v, hc⟩
  refine ⟨fun v c hc => ?_, fun c hc => ?_, fun v => ?_⟩
  · rw [enterJoin_chans, enterJoin_retention, if_pos (owned v c hc)]
    exact ⟨rfl, rfl, rfl⟩
  · rw [enterJoin_retention, if_neg]
    rw [owner_isSome_iff]
    exact fun ⟨v, h⟩ => hc v h
  · have e : ((enterJoin k s).channels v).any (fun c => (enterJoin k s).chans[c.val].estimate.isSome) = true ↔
        ∃ c ∈ (enterJoin k s).channels v, s.retention[c.val].isSome = true := by
      rw [List.any_eq_true]
      refine exists_congr fun c => and_congr_right fun hc => ?_
      rw [enterJoin_chans, if_pos (owned v c hc)]
    rw [enterJoin_vents]
    refine ⟨rfl, rfl, ?_⟩
    rw [← e]
    simp only
    split
    · next h => simp [h, Config.stopLimit]
    · next h => simp [h]

/-- R126, R130, R133, R134, R138: what JOIN begins with, for the terminals. -/
theorem enterJoin_terminals (k : Image) (s : State) :
    let t := enterJoin k s
    let contact := fun k : TermId => t.fn k = .keyOpen ∨ t.fn k = .keyClose ∨ t.fn k = .resetButton ∨
      (∃ z, t.fn k = .callPoint z) ∨ ∃ m, t.fn k = .manualOpen m ∨ t.fn k = .manualClose m
    let lowest := fun (f : TermFn) (k : TermId) => t.fn k = f ∧ ∀ j : TermId, j < k → t.fn j ≠ f
    (∀ k : TermId,
      (contact k → t.terms[k.val] =
        { Term.reset with debounce := if s.pins[k.val] then some (s.now + 50000) else none }) ∧
      (∀ z, t.fn k = .smokeLoop z → t.terms[k.val] = { Term.reset with loop := .watch }) ∧
      (¬ contact k → (∀ z, t.fn k ≠ .smokeLoop z) → t.terms[k.val] = Term.reset) ∧
      (lowest .mainsMonitor k →
        t.mains = { battery := false, loss := if s.pins[k.val] then none else some (s.now + 2000000), back := none }) ∧
      (lowest .rainSense k → t.weather.rainConfirm =
        if s.pins[k.val] = s.weather.wetFiltered then none else some (s.now + 1000000))) ∧
    ((∀ k : TermId, t.fn k ≠ .mainsMonitor) → t.mains = { battery := false, loss := none, back := none }) := by
  have fn : ∀ i : TermId, (enterJoin k s).fn i = (s.withImage k).fn i := fun i => by
    simp only [State.fn, enterJoin_image]; rfl
  have term : ∀ i : TermId, (enterJoin k s).terms[i.val] = startTerm ((enterJoin k s).fn i) s.pins[i.val] s.now := fun i => by
    rw [enterJoin_terms, fn]; rfl
  simp only [fn] at term ⊢
  refine ⟨fun i => ⟨fun h => ?_, fun z h => ?_, fun h h' => ?_, fun ⟨h, hl⟩ => ?_, fun ⟨h, hl⟩ => ?_⟩, fun h => ?_⟩
  · rw [term, startTerm_eq, if_pos ((isContact_iff _).2 h)]
  · rw [term, startTerm_eq, h]; rfl
  · rw [term, startTerm_eq, if_neg (mt (isContact_iff _).1 h), if_neg]
    rw [isLoop_iff]
    exact fun ⟨z, e⟩ => h' z e
  · rw [enterJoin_mains, State.startMains, firstTerm_lowest h hl]
    simp only [Mains.atPin, Mains.reset, Fin.getElem_fin]
    rfl
  · exact enterJoin_rain k s (firstTerm_lowest h hl)
  · rw [enterJoin_mains, State.startMains, firstTerm_none h]; rfl

/-- Settles O22: an unsound image is refused before anything of it is read; a sound one starts every block from its reset values,
the Drive Unit from the retention memory. -/
theorem imageTaken : Obligations.ImageTaken := by
  intro dt b s hs hl hb
  have loads : (s.tick dt).isLoading = true := by
    rw [State.isLoading]; exact Bool.and_eq_true_iff.2 ⟨decide_eq_true hs, decide_eq_true hl⟩
  have read : exec (.imageReadComplete dt b) s = .next (finishRead b (s.tick dt)) := by
    rw [exec, execImageReadComplete, if_pos (by rw [loads, hb]; rfl)]
  refine ⟨fun h => ⟨_, read, ?_⟩, fun h => ⟨_, read, ?_⟩⟩
  · rw [finishRead, loadImage, if_neg (by rw [h]; decide)]
    exact ⟨rfl, rfl, rfl, rfl, rfl⟩
  · rw [finishRead, loadImage, if_pos h]
    have boot := enterJoin_boot (readImage b) (s.tick dt)
    obtain ⟨h1, h2, h3⟩ := enterJoin_drives (readImage b) (s.tick dt)
    exact ⟨by rw [boot], by rw [boot], by rw [boot]; rfl, enterJoin_image _ _, h1, h2, h3,
      enterJoin_terminals (readImage b) (s.tick dt)⟩

end

section
/-! SUPPORT. What a vent's position is and when it needs to move (R37, R39), and the ends of a DWELL and of a cool-down (R57, R58). -/

namespace Sys2Proof.Machine

open Relation

variable {v : VentId} {s t : State} {dt : Micros}

/-! ### The positions of a used vent (R37, R39) -/

/-- R37: a used vent has one channel, or two. -/
theorem channels_of_used (h : s.used v = true) : (∃ c, s.channels v = [c]) ∨ ∃ c d, s.channels v = [c, d] := by
  have h : (s.cfg v).used = true := h
  rw [State.channels, VentCfg.channels, if_pos h]
  split
  · exact .inr ⟨_, _, rfl⟩
  · exact .inl ⟨_, rfl⟩

theorem allKnown_iff : s.allKnown v = true ↔ ¬ ∃ c ∈ s.channels v, s.chanPos v c = none := by
  simp [State.allKnown, Option.isSome_iff_ne_none]

theorem awayFrom_iff (p : Nat) : s.awayFrom v p = true ↔ ∃ c ∈ s.channels v, s.chanPos v c ≠ some p := by
  simp [State.awayFrom]

theorem ventPos_none (h : s.used v = true) : s.ventPos v = none ↔ ∃ c ∈ s.channels v, s.chanPos v c = none := by
  unfold State.ventPos
  rcases channels_of_used h with ⟨c, e⟩ | ⟨c, d, e⟩ <;> rw [e]
  · simp
  · rcases h1 : s.chanPos v c with _ | p <;> rcases h2 : s.chanPos v d with _ | q <;> simp [h1, h2]

theorem ventPos_some (h : s.used v = true) {q : Nat} (hq : s.ventPos v = some q) :
    (∃ c ∈ s.channels v, s.chanPos v c = some q) ∧ ∀ c ∈ s.channels v, ∃ r, s.chanPos v c = some r ∧ q ≤ r := by
  unfold State.ventPos at hq
  rcases channels_of_used h with ⟨c, e⟩ | ⟨c, d, e⟩ <;> rw [e] at hq ⊢
  · simp only at hq; simp [hq]
  · rcases h1 : s.chanPos v c with _ | a <;> rcases h2 : s.chanPos v d with _ | b <;> simp only [h1, h2] at hq
    · cases hq
    · cases hq
    · cases hq
    · obtain rfl := Option.some.inj hq
      simp only [List.mem_cons, List.not_mem_nil, or_false, exists_eq_or_imp, exists_eq_left, forall_eq_or_imp, forall_eq, h1,
        h2, Option.some.injEq, exists_eq_left']
      omega

/-- R39: re-anchoring is due with a channel UNKNOWN, with channels apart, or after 8 stops below FIRE class. -/
theorem reanchorDue_iff (h : s.used v = true) : s.reanchorDue v = true ↔ (∃ c ∈ s.channels v, s.chanPos v c = none) ∨
    (∃ c ∈ s.channels v, ∃ e ∈ s.channels v, s.chanPos v c ≠ s.chanPos v e) ∨
      s.vents[v.val].stops = 8 ∧ classRank s.vents[v.val].cls < 4 := by
  have stops : (s.vents[v].stops == Config.stopLimit && decide (classRank s.vents[v].cls < classRank .fire)) = true ↔
      s.vents[v.val].stops = 8 ∧ classRank s.vents[v.val].cls < 4 := by
    simp only [Bool.and_eq_true, beq_iff_eq, decide_eq_true_eq, Fin.getElem_fin]; exact Iff.rfl
  have known : (!s.allKnown v) = true ↔ ∃ c ∈ s.channels v, s.chanPos v c = none := by
    rw [Bool.not_eq_true', ← Bool.not_eq_true, allKnown_iff, not_not]
  unfold State.reanchorDue
  rw [Bool.or_eq_true, Bool.or_eq_true, stops, known, or_assoc]
  refine or_congr_right' fun hk => or_congr_left ?_
  unfold State.agree
  rcases channels_of_used h with ⟨c, e⟩ | ⟨c, d, e⟩ <;> rw [e] at hk ⊢
  · simp
  · rcases h1 : s.chanPos v c with _ | a
    · exact absurd ⟨c, by simp, h1⟩ hk
    · by_cases k : s.chanPos v d = some a
      · simp [h1, k]
      · have k' : ¬ some a = s.chanPos v d := fun e => k e.symm
        simp [h1, k, k']

theorem classRank_below (k : DemandClass) : classRank k < 4 ↔ k ≠ .fire ∧ k ≠ .brigade := by cases k <;> simp [classRank]

/-! ### What a vent wants, by its target (R39) -/

theorem wants_hold (h : s.vents[v.val].target = .hold) : s.wants v = none := by
  simp only [State.wants, Fin.getElem_fin, h]

theorem wants_closed (h : s.vents[v.val].target = .pos 0) :
    s.wants v = if s.awayFrom v 0 then some (.closing, .toEnd) else none := by
  simp only [State.wants, Fin.getElem_fin, h, if_true]

theorem wants_open (h : s.vents[v.val].target = .pos 1000) :
    s.wants v = if s.awayFrom v 1000 then some (.opening, .toEnd) else none := by
  simp only [State.wants, Fin.getElem_fin, h]
  rfl

theorem wants_between {p : Nat} (h0 : 0 < p) (h1 : p < 1000) (h : s.vents[v.val].target = .pos p) :
    s.wants v = if s.reanchorDue v then some (if p ≤ 500 then .closing else .opening, .anchoring)
      else match s.ventPos v with
        | none => none
        | some q => if q = p then none else some (if q < p then .opening else .closing, .toStop) := by
  simp only [State.wants, Fin.getElem_fin, h]
  exact (if_neg (by omega)).trans (if_neg (by omega))

/-- R39: all the channels of a used vent at one position. -/
theorem ventPos_common (h : s.used v = true) {q : Nat} (hq : ∀ c ∈ s.channels v, s.chanPos v c = some q) :
    s.ventPos v = some q := by
  rcases e : s.ventPos v with _ | r
  · obtain ⟨c, hc, k⟩ := (ventPos_none h).1 e
    rw [hq c hc] at k; cases k
  · obtain ⟨c, hc, k⟩ := (ventPos_some h e).1
    rw [← k, hq c hc]

/-! ### A DWELL and a cool-down that end (R57, R58) -/

theorem exec_dwellExpiry {e : Micros} (hr : s.boot.station = .run) (hv : s.vents[v.val].state = .dwell)
    (hx : s.vents[v.val].dwellEnds = some e) (he : e ≤ s.now + dt) :
    exec (.dwellExpiry dt v) s = .next (finish Causes.none (s.tick dt) (endDwell v (s.tick dt))) := by
  rw [exec, execDwellExpiry, plainEvent_taken]
  have hv : ((s.tick dt).vents[v].state == .dwell) = true := beq_iff_eq.2 hv
  rw [inRun_of hr, hv]
  exact due_of hx he

theorem exec_coolDownExpiry {e : Micros} (hr : s.boot.station = .run) (hv : s.vents[v.val].state = .stalled)
    (hx : s.vents[v.val].coolEnds = some e) (he : e ≤ s.now + dt) :
    exec (.coolDownExpiry dt v) s = .next (finish Causes.none (s.tick dt) (evaluate v (s.tick dt))) := by
  rw [exec, execCoolDownExpiry, plainEvent_taken]
  have hv : ((s.tick dt).vents[v].state == .stalled) = true := beq_iff_eq.2 hv
  rw [inRun_of hr, hv]
  exact due_of hx he

/-- What the completion of an event makes of a vent that has just been evaluated and that no call reaches: it keeps what the
evaluation made of it, or it waits on. `x` is the state the vent was evaluated in. -/
theorem evaluated_turns {x t : State} (ht : finish Causes.none (s.tick dt) (evaluate v x) = t)
    (hi : x.still = (s.tick dt).still) (hd : (evaluate v x).DriveLaw)
    (ho : ∀ w : VentId, w ≠ v → x.vents[w.val] = s.vents[w.val]) (hl : s.vents[v.val].state ≠ .locked)
    (hh : x.held v = s.held v) (ok : s.line.state = .ok) (hn : s.uncallable v) :
    (x.wants v = none → Keeps v (toIdle v x) t) ∧
      (∀ d k, x.wants v = some (d, k) → x.vents[v.val].permits d = true → Waits v (toWait v k x) t) ∧
      ∀ d k, x.wants v = some (d, k) → x.vents[v.val].permits d = false → Keeps v (toDwell v x) t := by
  have down : (s.tick dt).lineDown = false := by
    rw [State.lineDown, show (s.tick dt).line.state = .ok from ok]; rfl
  have turns : Turns (FireCall (s.tick dt) v) (s.tick dt).lineDown v (evaluate v x) t := by
    rw [← ht]
    refine finish_turns_of (by rw [evaluate_still]; exact hi) hd (fun w hw => by rw [evaluate_other hw]; exact ho w hw)
      ⟨fun k => ?_, fun k => absurd k hl⟩ (by rw [evaluate_held]; exact hh)
    have := evaluate_running v x
    rcases (evaluate_same v x).1 with e | e | e <;> rw [e] at k <;> cases k
  have img : (evaluate v x).image = (s.tick dt).image := by rw [image_of_still (evaluate_still v x), image_of_still hi]
  have uncalled : ∀ y : State, y.image = (evaluate v x).image → ¬ FireCall (s.tick dt) v y := fun y hy =>
    uncallable_noCall hn (hy.trans img)
  refine ⟨fun hw => ?_, fun d k hw hp => ?_, fun d k hw hp => ?_⟩
  · have e : evaluate v x = toIdle v x := by simp only [evaluate, hw]
    rw [e] at turns uncalled
    exact turns.unmoved (fun y k => uncalled y k.image) (by rw [toIdle_state]; exact ⟨nofun, nofun⟩)
  · have e : evaluate v x = toWait v k x := by simp only [evaluate, hw, Fin.getElem_fin, hp, if_true]
    have view : SameView v x (toWait v k x) := SameView.updVent x v _ ⟨rfl, rfl, rfl, rfl⟩
    rw [e] at turns uncalled
    exact turns.waits uncalled down (.inl (by simp [toWait])) (view.wants.trans hw)
      (by rw [Vent.permits, toWait, updVent_same]; exact hp)
  · have e : evaluate v x = toDwell v x := by
      simp only [evaluate, hw, Fin.getElem_fin, hp, Bool.false_eq_true, if_false]
    rw [e] at turns uncalled
    exact turns.unmoved (fun y k => uncalled y k.image) (by rw [toDwell_state]; exact ⟨nofun, nofun⟩)

end Sys2Proof.Machine
end

section
/-! CERTIFICATES. When a vent needs to move, and the ends of a DWELL and of a cool-down (O57). -/

open Sys2Proof Sys2Proof.Machine

/-- R39: what a used vent wants, row by row. -/
theorem wants_rows {s : State} {v : VentId} (hu : s.used v = true) :
    let pos := s.chanPos v
    let away := fun x : Nat => ∃ c ∈ s.channels v, pos c ≠ some x
    let reanchor := (∃ c ∈ s.channels v, pos c = none) ∨ (∃ c ∈ s.channels v, ∃ e ∈ s.channels v, pos c ≠ pos e) ∨
      s.vents[v.val].stops = 8 ∧ s.vents[v.val].cls ≠ .fire ∧ s.vents[v.val].cls ≠ .brigade
    (s.vents[v.val].target = .hold → s.wants v = none) ∧
      (s.vents[v.val].target = .pos 0 → (away 0 → s.wants v = some (.closing, .toEnd)) ∧ (¬ away 0 → s.wants v = none)) ∧
      (s.vents[v.val].target = .pos 1000 → (away 1000 → s.wants v = some (.opening, .toEnd)) ∧ (¬ away 1000 → s.wants v = none)) ∧
      (∀ p, 0 < p → p < 1000 → s.vents[v.val].target = .pos p →
        (reanchor → s.wants v = some (if p ≤ 500 then .closing else .opening, .anchoring)) ∧
        (¬ reanchor → ∀ q, (∀ c ∈ s.channels v, pos c = some q) →
          (q = p → s.wants v = none) ∧ (q < p → s.wants v = some (.opening, .toStop)) ∧
            (p < q → s.wants v = some (.closing, .toStop)))) ∧
      (s.ventPos v = none ↔ ∃ c ∈ s.channels v, pos c = none) ∧
      ∀ q, s.ventPos v = some q →
        (∃ c ∈ s.channels v, pos c = some q) ∧ ∀ c ∈ s.channels v, ∃ r, pos c = some r ∧ q ≤ r := by
  refine ⟨wants_hold, fun h => ?_, fun h => ?_, fun p h0 h1 h => ?_, ventPos_none hu, fun q hq => ventPos_some hu hq⟩
  · rw [wants_closed h]
    exact ⟨fun k => if_pos ((awayFrom_iff 0).2 k), fun k => if_neg (mt (awayFrom_iff 0).1 k)⟩
  · rw [wants_open h]
    exact ⟨fun k => if_pos ((awayFrom_iff 1000).2 k), fun k => if_neg (mt (awayFrom_iff 1000).1 k)⟩
  · rw [wants_between h0 h1 h, ← classRank_below, ← reanchorDue_iff hu]
    refine ⟨fun k => if_pos k, fun k q hq => ?_⟩
    rw [if_neg k, ventPos_common hu hq]
    refine ⟨fun e => if_pos e, fun e => ?_, fun e => ?_⟩
    · simp only [e, if_true]; rw [if_neg (by omega)]
    · simp only; rw [if_neg (by omega), if_neg (by omega)]

/-- R57: the DWELL of a vent ends. -/
theorem dwell_ends {s t : State} {v : VentId} {dt : Micros} (ht : finish Causes.none (s.tick dt) (endDwell v (s.tick dt)) = t)
    (hs : s.DriveLaw) (ok : s.line.state = .ok) (hn : s.uncallable v)
    (hv : s.vents[v.val].state = .dwell) :
    t.vents[v.val].lastDir = none ∧ ((s.tick dt).wants v = none → t.vents[v.val].state = .idle) ∧
      ((s.tick dt).wants v ≠ none → (t.vents[v.val].state = .waitSupply ∨ t.vents[v.val].state = .announced) ∧
        t.vents[v.val].joinTime = s.now + dt) := by
  have free : ∀ a, s.supply.start = some a → a.vent ≠ v := hs.start_ne (by rw [hv]; decide)
  have hd : (endDwell v (s.tick dt)).DriveLaw := by
    have m : Move .verdict True v (s.tick dt) _ := .undwell (s.tick dt) rfl hv
    rw [endDwell, ← evaluate_toIdle]
    have hi := toIdle_state v ((s.tick dt).updVent v fun x => { x with lastDir := none })
    exact (evaluate_move (ph := .effect) (.of_idle hi fun _ => free)).driveLaw trivial (m.driveLaw trivial hs)
  have view : SameView v (s.tick dt) ((s.tick dt).updVent v fun x => { x with lastDir := none }) :=
    SameView.updVent _ v _ ⟨rfl, rfl, rfl, rfl⟩
  have last : ((s.tick dt).updVent v fun x => { x with lastDir := none }).vents[v.val].lastDir = none := by rw [updVent_same]
  obtain ⟨h1, h2, -⟩ := evaluated_turns (s := s) (dt := dt) ht rfl hd (fun w hw => updVent_other _ hw _) (by rw [hv]; decide)
    (updVent_held _ v _ ⟨rfl, rfl⟩) ok hn
  rw [view.wants] at h1 h2
  rcases hw : (s.tick dt).wants v with _ | ⟨d, k⟩
  · have e := (h1 hw).vent
    refine ⟨?_, fun _ => ?_, fun k => absurd rfl k⟩ <;> rw [e]
    · simp [toIdle]
    · simp [toIdle]
  · obtain ⟨e1, ⟨e2, e3, -⟩, -⟩ := h2 d k hw (by rw [Vent.permits, last]; rfl)
    refine ⟨?_, nofun, fun _ => ⟨e1, ?_⟩⟩
    · rw [e3]; simp [toWait]
    · rw [e2]; simp [toWait]; rfl

/-- R58: the cool-down of a vent ends. -/
theorem coolDown_ends {s t : State} {v : VentId} {dt : Micros} (ht : finish Causes.none (s.tick dt) (evaluate v (s.tick dt)) = t)
    (hs : s.DriveLaw) (ok : s.line.state = .ok) (hn : s.uncallable v)
    (hv : s.vents[v.val].state = .stalled) :
    t.vents[v.val].lastDir = s.vents[v.val].lastDir ∧ t.vents[v.val].retries = s.vents[v.val].retries ∧
      ((s.tick dt).wants v = none → t.vents[v.val].state = .idle) ∧
      (∀ d k, (s.tick dt).wants v = some (d, k) → s.vents[v.val].permits d = true →
        t.vents[v.val].state = .waitSupply ∨ t.vents[v.val].state = .announced) ∧
      ∀ d k, (s.tick dt).wants v = some (d, k) → s.vents[v.val].permits d = false →
        t.vents[v.val].state = .dwell ∧ t.vents[v.val].dwellEnds = some (s.now + dt + 300000) := by
  have hd : (evaluate v (s.tick dt)).DriveLaw :=
    (evaluate_move (ph := .effect) (lawful := True) (s := s.tick dt) ⟨fun _ => .inl (by
        rw [show (s.tick dt).vents[v.val].state = .stalled from hv]; rfl),
      fun _ => hs.start_ne (by rw [hv]; decide), fun _ => by rw [show (s.tick dt).vents[v.val].state = .stalled from hv]; decide,
      fun _ _ => rfl⟩).driveLaw trivial hs
  obtain ⟨h1, h2, h3⟩ := evaluated_turns (s := s) (dt := dt) ht rfl hd (fun _ _ => rfl) (by rw [hv]; decide) rfl ok hn
  rcases hw : (s.tick dt).wants v with _ | ⟨d, k⟩
  · have e := (h1 hw).vent
    refine ⟨?_, ?_, fun _ => ?_, nofun, nofun⟩ <;> rw [e] <;> simp [toIdle] <;> rfl
  · by_cases hp : s.vents[v.val].permits d = true
    · obtain ⟨e1, ⟨-, e2, e3⟩, -⟩ := h2 d k hw hp
      refine ⟨?_, ?_, nofun, fun _ _ _ _ => e1, ?_⟩
      · rw [e2]; simp [toWait]; rfl
      · rw [e3]; simp [toWait]; rfl
      · rintro d' k' ⟨⟩ hp'; rw [hp] at hp'; cases hp'
    · have e := (h3 d k hw (Bool.not_eq_true _ ▸ hp)).vent
      refine ⟨?_, ?_, nofun, ?_, fun _ _ _ _ => ?_⟩
      · rw [e]; simp [toDwell]; rfl
      · rw [e]; simp [toDwell]; rfl
      · rintro d' k' ⟨⟩ hp'; exact absurd hp' hp
      · rw [e]; simp [toDwell]; rfl

/-- Settles O57: what a vent wants is read off row by row, and in LINE_OK a vent that no call reaches keeps what its evaluation made
of it, or waits on (`evaluated_turns`). -/
theorem dwellAndCoolDown : Obligations.DwellAndCoolDown := by
  refine ⟨fun dt v s hu => ?_, fun dt v e s hs hr ok hn hu he => ⟨fun hv hx => ?_, fun hv hx => ?_⟩⟩
  · have rows := wants_rows (s := s.tick dt) (v := v) hu
    simp only [chanPos_tick] at rows
    exact rows
  · exact ⟨_, exec_dwellExpiry hr hv hx he, dwell_ends rfl hs ok hn hv⟩
  · exact ⟨_, exec_coolDownExpiry hr hv hx he, coolDown_ends rfl hs ok hn hv⟩

end

section
/-! SUPPORT. The commit check at the announcing DRAW (R75), and the DRAW that its event composes (R74). -/

namespace Sys2Proof.Machine

open Relation

variable {v w : VentId} {s t u before : State} {dt : Micros}

/-! ### The frame that was sent (R75, R144) -/

/-- R144: the Line Controller's items once the frame in transmission has been sent. -/
def Line.delivered (l : Line) (f : Frame) : Line := ({ l.leave with failures := 0, ownLast := true }).reported f

theorem delivered_line (l : Line) (f : Frame) :
    (l.delivered f).state = l.state ∧ (l.delivered f).waiting = l.waiting ∧ (l.delivered f).tx = none := by
  cases f <;> exact ⟨rfl, rfl, rfl⟩

theorem frameSent_announcing {q : Queued} {id : Nat} (hq : s.line.tx = some q) (ha : q.ann = some id)
    (hs : s.supply.start = some { vent := v, id := id }) (hm : s.supply.mark = some id) :
    frameSent s = commit v (s.updLine fun l => l.delivered q.frame) := by
  have e : s.supply.announcedBy q = some v := by simp [Supply.announcedBy, hs, ha, hm]
  unfold frameSent
  rw [hq]
  simp only [e]
  rfl

theorem exec_frameSent {q : Queued} {id : Nat} (hr : s.boot.station = .run) (hg : s.line.sending = true)
    (hq : s.line.tx = some q) (ha : q.ann = some id) (hs : s.supply.start = some { vent := v, id := id })
    (hm : s.supply.mark = some id) : exec (.frameSentWithoutError dt) s =
      .next (finish Causes.none (s.tick dt) (commit v ((s.tick dt).updLine fun l => l.delivered q.frame))) := by
  rw [exec, execFrameSentWithoutError, plainEvent_taken, frameSent_announcing (s := s.tick dt) hq ha hs hm]
  have hg : (s.tick dt).line.sending = true := hg
  have hq : (s.tick dt).line.tx = some q := hq
  rw [inRun_of hr, hg, hq]
  rfl

/-! ### What the commit check decides (R42, R75 to R78) -/

/-- R42: a vent that need not move, or must reverse, is put to rest with no start in progress. -/
theorem commit_notTaken (v : VentId) (s : State) :
    (s.wants v = none → ∃ y, commit v s = toIdle v y ∧ Keeps v s (y.updVent v fun x => { x with state := s.vents[v.val].state })) ∧
      ∀ d k, s.wants v = some (d, k) → s.vents[v.val].permits d = false → ∃ y, commit v s = toDwell v y ∧
        Keeps v s (y.updVent v fun x => { x with state := s.vents[v.val].state }) := by
  have view : SameView v s (endStart s) := ⟨rfl, rfl, fun _ _ => rfl, rfl, rfl, rfl, rfl⟩
  have view' : SameView v s ((endStart s).updVent v fun x => { x with state := .waitSupply }) :=
    ⟨rfl, rfl, fun _ _ => rfl, by rw [updVent_same]; exact ⟨rfl, rfl, rfl, rfl⟩⟩
  have keeps1 : Keeps v s ((endStart s).updVent v fun x => { x with state := s.vents[v.val].state }) :=
    ⟨by rw [updVent_same]; rfl, fun _ _ => rfl, rfl, rfl⟩
  have keeps2 : Keeps v s (((endStart s).updVent v fun x => { x with state := .waitSupply }).updVent v fun x =>
      { x with state := s.vents[v.val].state }) :=
    ⟨by rw [updVent_same, updVent_same]; rfl, fun _ _ => rfl, rfl, rfl⟩
  refine ⟨fun hw => ?_, fun d k hw hp => ?_⟩
  · rcases commit_cases v s with ⟨-, e⟩ | ⟨-, e⟩ <;> rw [e]
    · refine ⟨endStart s, ?_, keeps1⟩
      have g : giveStart v s = toIdle v (endStart s) := by simp only [giveStart, view.wants, hw]
      rw [g, noteCommit_notBegun (by rw [toIdle_state]; rfl)]
    · refine ⟨_, ?_, keeps2⟩
      simp only [returnStart, evaluateWaiting, view'.wants, hw]
  · have hp1 : (endStart s).vents[v].permits d = false := hp
    have hp2 : ((endStart s).updVent v fun x => { x with state := .waitSupply }).vents[v].permits d = false := by
      rw [Fin.getElem_fin, updVent_same]; exact hp
    rcases commit_cases v s with ⟨-, e⟩ | ⟨-, e⟩ <;> rw [e]
    · refine ⟨endStart s, ?_, keeps1⟩
      have g : giveStart v s = toDwell v (endStart s) := by
        simp only [giveStart, view.wants, hw, hp1, Bool.false_eq_true, if_false]
      rw [g, noteCommit_notBegun (by rw [toDwell_state]; rfl)]
    · refine ⟨_, ?_, keeps2⟩
      simp only [returnStart, evaluateWaiting, view'.wants, hw, hp2, Bool.false_eq_true, if_false]

/-- R75, R76, R78: the start of a vent that may move is given within the feed limit, and returned beyond it. -/
theorem commit_permitted {d : Dir} {k : RunKind} (hw : s.wants v = some (d, k)) (hp : s.vents[v.val].permits d = true) :
    (s.budgetHolds v = true → commit v s = begunRun v d k (some s.vents[v.val].lastDir) (endStart s)) ∧
      (s.budgetHolds v = false →
        commit v s = (endStart s).updVent v fun x => { x with state := .waitSupply, runKind := some k }) := by
  have view : SameView v s (endStart s) := ⟨rfl, rfl, fun _ _ => rfl, rfl, rfl, rfl, rfl⟩
  have hp1 : (endStart s).vents[v].permits d = true := hp
  have g : giveStart v s = beginRun v d k (endStart s) := by simp only [giveStart, view.wants, hw, hp1, if_true]
  refine ⟨fun h => ?_, fun h => ?_⟩
  · rw [commit, if_pos h, g, noteCommit_begun]; rfl
  · rw [commit, if_neg (by rw [h]; decide), returnStart_waiting hw hp]

theorem Calm.trans (h : Calm before s) (k : Calm s t) : Calm before t :=
  ⟨k.fire.trans h.fire, k.area.trans h.area, k.windward.trans h.windward, k.weather.trans h.weather,
    k.demand.trans h.demand, k.image.trans h.image, fun v => (k.locks v).trans (h.locks v), fun v => (k.held v).trans (h.held v)⟩

/-- R83: a commit check leaves the vent's demand as it was, and locks nothing. -/
theorem commit_kept (v : VentId) (s : State) :
    (commit v s).held v = s.held v ∧ (commit v s).vents[v.val].state ≠ .locked := by
  rcases hw : s.wants v with _ | ⟨d, k⟩
  · obtain ⟨y, e, h⟩ := (commit_notTaken v s).1 hw
    rw [e, toIdle_held, ← h.held, updVent_held _ v _ ⟨rfl, rfl⟩, toIdle_state]
    exact ⟨rfl, nofun⟩
  · by_cases hp : s.vents[v.val].permits d = true
    · obtain ⟨h1, h2⟩ := commit_permitted hw hp
      by_cases hb : s.budgetHolds v = true
      · rw [h1 hb]
        simp only [State.held, Fin.getElem_fin, begunRun_same]
        exact ⟨rfl, by cases d <;> nofun⟩
      · rw [h2 (by simpa using hb), updVent_held _ v _ ⟨rfl, rfl⟩, updVent_same]
        exact ⟨rfl, nofun⟩
    · obtain ⟨y, e, h⟩ := (commit_notTaken v s).2 d k hw (by simpa using hp)
      rw [e, toDwell_held, ← h.held, updVent_held _ v _ ⟨rfl, rfl⟩, toDwell_state]
      exact ⟨rfl, nofun⟩

/-! ### Outside fire mode the check beyond the limit is not made again (R71, R75) -/

/-- R70, R73: with the line up a pre-check changes nothing, or announces a head that passes it. -/
theorem serve_cases (n : Nat) (hl : s.lineDown = false) :
    serve n s = s ∨ ∃ w, s.preCheck w = true ∧ serve n s = announce w s := by
  cases n with
  | zero => exact .inl rfl
  | succ n =>
    simp only [serve, hl, Bool.false_eq_true, if_false]
    split
    · split
      · exact .inl rfl
      · next w _ =>
        split
        · next k => exact .inr ⟨w, (Bool.and_eq_true_iff.1 k).2, rfl⟩
        · exact .inl rfl
    · exact .inl rfl

/-- R71, R73: a vent that fails the pre-check is not announced by it. -/
theorem serve_fails (n : Nat) (hl : s.lineDown = false) (hf : s.preCheck v = false) :
    (serve n s).vents[v.val] = s.vents[v.val] := by
  rcases serve_cases n hl with e | ⟨w, hw, e⟩ <;> rw [e]
  have hv : v ≠ w := by rintro rfl; rw [hf] at hw; cases hw
  exact updVent_other _ hv _

theorem rebalance_calm (b : Bool) (h : Calm before s) (hf : s.fireMode = false) : rebalance b before s = s := by
  rw [rebalance, hf, Bool.and_false, Bool.false_and, if_neg Bool.false_ne_true, h.settleDemands]

/-- Outside fire mode the blocks decide once. -/
theorem secondPass_calm (c : Causes) (h : Calm before s) (hf : s.fireMode = false) :
    secondPass c before s = schedule before s := by
  have e1 : firstPass c before s = schedule before s := by rw [firstPass, balanced, h.align, rebalance_calm _ h hf]
  have hf' : (schedule before s).fireMode = false := by rw [fireMode_of_sources (schedule_sources before s), hf]
  rw [secondPass, e1, rebalance_calm _ (.refl _) hf', (Filtered.refl _).schedule]

theorem finish_fails (c : Causes) (h : Calm before s) (hd : s.DriveLaw) (hf : s.fireMode = false) (hl : s.lineDown = false)
    (hw : s.vents[v.val].state = .waitSupply) (hp : s.preCheck v = false) :
    (finish c before s).vents[v.val] = s.vents[v.val] := by
  have e : (schedule before s).vents[v.val] = s.vents[v.val] := by
    unfold schedule; split
    · exact serve_fails 9 hl hp
    · rfl
  obtain ⟨-, -, -, -, -, -, -, hd'⟩ := schedule_at before v hd
  have frames : (decided c before s).vents[v.val] = s.vents[v.val] := by
    have e' : decided c before s = sendFrames c before (decideStarts c before s).2 (schedule before s) := by
      rw [← secondPass_calm c h hf, ← decideStarts_fst]; rfl
    rw [e']
    obtain ⟨x, y, k1, k2, k3⟩ := (sendFrames_offered c before (decideStarts c before s).2 hd' v).vent
    rw [k3.vent, ← e]
    cases k2 with
    | kept => exact k1.vent
    | back id hd'' ha =>
      have ann := hd''.2.2.2 _ ha
      simp only [Fin.getElem_fin] at ann
      rw [k1.vent, e, hw] at ann; cases ann
  rw [finish_eq]
  exact (((writeRetention_aside before _).keeps v).trans ((syncOutputs_aside before _).keeps v)).vent.trans frames

/-! ### The DRAW of an event (R73, R74) -/

/-- The transmit queue and the content of the last DRAW accepted stand. -/
def SameQueue (s t : State) : Prop := t.line = s.line ∧ t.supply.lastDraw = s.supply.lastDraw

theorem SameQueue.trans (h : SameQueue s t) (k : SameQueue t u) : SameQueue s u := ⟨k.1.trans h.1, k.2.trans h.2⟩

theorem Move.sameQueue {ph : Phase} {lawful : Prop} (m : Move ph lawful v s t) : SameQueue s t := by
  refine ⟨line_of_still m.still, ?_⟩
  cases m <;> first | rfl | simp [runTimeout, toLocked]

theorem Moves.sameQueue {ph : Phase} {lawful : Prop} (p : Moves ph lawful v s t) : SameQueue s t := by
  induction p with
  | refl => exact ⟨rfl, rfl⟩
  | tail _ m ih => exact ih.trans m.sameQueue

theorem forEight_sameQueue {f : State → VentId → State} (hf : ∀ u w, SameQueue u (f u w)) (s : State) :
    SameQueue s (forEight f s) := by
  have fold : ∀ (l : List VentId) (u : State), SameQueue u (l.foldl f u) := by
    intro l
    induction l with
    | nil => exact fun _ => ⟨rfl, rfl⟩
    | cons v l ih => exact fun u => (hf u v).trans (ih _)
  exact fold eight s

theorem settleDemands_sameQueue (who : VentId → Bool) (before s : State) : SameQueue s (settleDemands who before s) := by
  refine (forEight_sameQueue (fun u w => ?_) s).trans (forEight_sameQueue (fun u w => ?_) _)
  · split
    · exact (handOnVent_moves (lawful := False) nofun).sameQueue
    · exact ⟨rfl, rfl⟩
  · split
    · next h =>
      have hi : u.vents[w.val].state = .idle := by simpa using (Bool.and_eq_true_iff.1 h).2
      exact (evaluate_move (ph := .settle) (lawful := False) (.of_idle hi nofun)).sameQueue
    · exact ⟨rfl, rfl⟩

theorem rebalance_sameQueue (b : Bool) (before s : State) : SameQueue s (rebalance b before s) := by
  have same : ∀ z, SameQueue s (syncPattern s (allocate z s)) := fun z => by
    obtain ⟨a, take, e, -⟩ := allocate_eq z s
    rw [e]
    unfold syncPattern
    split <;> exact ⟨rfl, rfl⟩
  unfold rebalance recompute
  split
  · split
    · exact ⟨rfl, rfl⟩
    · next z _ =>
      have h := (same z).trans (settleDemands_sameQueue everyVent before _)
      generalize settleDemands everyVent before (syncPattern s (allocate z s)) = u at *
      obtain ⟨r, e, -⟩ := formReport_eq z (s.primarySum z, s.offerSum z) u
      rw [e]
      exact h
  · exact settleDemands_sameQueue everyVent before s

theorem schedule_sameQueue (before s : State) : SameQueue s (schedule before s) := by
  have serves : ∀ (n : Nat) (s : State), SameQueue s (serve n s) := by
    intro n
    induction n with
    | zero => exact fun _ => ⟨rfl, rfl⟩
    | succ n ih =>
      intro s
      unfold serve
      repeat' split
      · exact ⟨rfl, rfl⟩
      · exact (giveStart_moves (ph := .serve) (lawful := False) nofun).sameQueue.trans (ih _)
      · exact ⟨rfl, rfl⟩
      · exact ⟨rfl, rfl⟩
      · exact ⟨rfl, rfl⟩
      · exact ⟨rfl, rfl⟩
  unfold schedule; split
  · exact serves 9 s
  · exact ⟨rfl, rfl⟩

theorem secondPass_sameQueue (c : Causes) (h : Calm before s) : SameQueue s (secondPass c before s) := by
  have h1 : SameQueue s (firstPass c before s) := by
    unfold firstPass balanced
    rw [h.align]
    exact (rebalance_sameQueue _ before s).trans (schedule_sameQueue before _)
  exact (h1.trans (rebalance_sameQueue _ _ _)).trans (schedule_sameQueue _ _)

/-- R149: a frame offered to a queue with room, that replaces none, waits there beside the others. -/
theorem offer_taken {f : Frame} (a : Option Nat) (hr : s.inRun = true) (hl : s.line.state = .ok)
    (hn : ∀ q ∈ s.line.waiting, q.frame.sameAs f = false) (hh : s.line.held < 6) :
    s.takes f = true ∧ offer f a s = s.updLine fun l =>
      { l with waiting := place { frame := f, stamp := s.event, ann := a } l.waiting } := by
  have e : s.offerCase f = .taken := by
    have h1 : s.takesOffers = true := by rw [State.takesOffers, hr, hl]; rfl
    have h2 : (s.line.waiting.any fun x => x.frame.sameAs f) = false := by simpa using hn
    rw [State.offerCase, h1, h2]
    simp only [Bool.not_true, Bool.false_eq_true, if_false]
    exact if_pos hh
  exact ⟨by simp [State.takes, e], by rw [offer, e]⟩

/-- R73, R74: the state once an empty queue has taken the DRAW of an event. -/
def drawn (s : State) : State :=
  (s.updLine fun l => { l with
    waiting := [{ frame := .draw s.drawContent, stamp := s.event, ann := s.supply.start.map Start.id }] }).updSupply
      fun x => { x with lastDraw := some s.drawContent, mark := s.supply.start.map Start.id }

/-- R74: in the completion of an event that leaves an empty queue and in which a frame has left it, a content that is not that
of the last DRAW accepted goes out in a DRAW. -/
theorem sendDraw_sends {q : Queued} (hb : before.line.tx = some q) (hr : s.inRun = true) (hl : s.line.state = .ok)
    (hq : s.line.waiting = [] ∧ s.line.tx = none) :
    (sendDraw before s = s ∧ s.drawContent = s.supply.accepted) ∨ sendDraw before s = drawn s := by
  have left : frameLeft before s = true := by
    simp [frameLeft, Line.frames, hb, hq.1, hq.2]
  unfold sendDraw
  split
  · refine .inr ?_
    obtain ⟨h1, h2⟩ := offer_taken (f := .draw s.drawContent) (s.supply.start.map Start.id) hr hl (by rw [hq.1]; simp)
      (by rw [Line.held, hq.1, hq.2]; decide)
    unfold offerDraw
    simp only [h1, if_true, h2, drawn, State.updLine, hq.1, place]
  · next h =>
    refine .inl ⟨rfl, ?_⟩
    by_contra k
    refine h ?_
    rw [drawDue, hr, left]
    simp [k]

/-- What a DRAW that the event composed keeps to the event's end. -/
structure DrawKept (s t : State) : Prop where
  content : t.drawContent = s.drawContent
  last : t.supply.lastDraw = s.supply.lastDraw
  waiting : ∀ q ∈ s.line.waiting, q ∈ t.line.waiting
  weather : t.weather = s.weather

theorem DrawKept.refl (s : State) : DrawKept s s := ⟨rfl, rfl, fun _ h => h, rfl⟩

theorem DrawKept.trans (h : DrawKept s t) (k : DrawKept t u) : DrawKept s u :=
  ⟨k.content.trans h.content, k.last.trans h.last, fun q hq => k.waiting q (h.waiting q hq),
    k.weather.trans h.weather⟩

/-- R103: the AREA of an event finds its place beside a DRAW. -/
theorem sendArea_kept (c : Causes) (b : Bool) (hr : s.inRun = true) (hl : s.line.state = .ok) (ht : s.line.tx = none)
    (hn : s.line.waiting = [] ∨ ∃ x n a, s.line.waiting = [{ frame := .draw x, stamp := n, ann := a }]) :
    DrawKept s (sendArea c b s) := by
  have room : s.line.held < 6 := by
    rw [Line.held, ht]
    rcases hn with e | ⟨x, n, a, e⟩ <;> rw [e] <;> simp
  have fresh : ∀ z, ∀ q ∈ s.line.waiting, q.frame.sameAs (.area (s.areaContent z)) = false := fun z q hq => by
    rcases hn with e | ⟨x, n, a, e⟩ <;> rw [e] at hq
    · cases hq
    · rw [List.mem_singleton] at hq; subst hq; rfl
  unfold sendArea
  split
  · exact .refl s
  · next z _ =>
    simp only
    split
    · split
      · rw [(offer_taken none hr hl (fresh z) room).2]
        exact ⟨rfl, rfl, fun q hq => (mem_place _ _ _).2 (.inr hq), rfl⟩
      · exact .refl s
    · exact .refl s

theorem writeRetention_kept (before s : State) : DrawKept s (writeRetention before s) := by
  have h := (writeRetention_retains before s).rest
  generalize writeRetention before s = t at *
  rw [h]
  exact ⟨rfl, rfl, fun _ k => k, rfl⟩

theorem withOutputs_kept (s : State) (x : Vector Bool 6) : DrawKept s (s.withOutputs x) := ⟨rfl, rfl, fun _ k => k, rfl⟩

theorem syncOutputs_kept (before s : State) : DrawKept s (syncOutputs before s) := by
  unfold syncOutputs; split
  · exact .refl s
  · exact withOutputs_kept s _

/-- R74: such a content waits in a DRAW at the event's end. -/
theorem finish_sendsDraw {q : Queued} (h : Calm before s) (hb : before.line.tx = some q) (hr : before.boot.station = .run)
    (hs : s.boot.station = .run) (hl : s.line.state = .ok) (hq : s.line.waiting = [] ∧ s.line.tx = none)
    (ht : finish Causes.none before s = t) (hc : t.drawContent ≠ s.supply.accepted) :
    t.drawWaits ∧ t.supply.lastDraw = some t.drawContent := by
  obtain ⟨line, last⟩ := secondPass_sameQueue Causes.none h
  have src : (secondPass Causes.none before s).sources = s.sources := by
    rw [← decideStarts_fst]; exact decideStarts_sources Causes.none before s
  obtain ⟨z, b, hz, hd⟩ : ∃ z b, z = secondPass Causes.none before s ∧
      decided Causes.none before s = sendFrames Causes.none before b z :=
    ⟨_, (decideStarts Causes.none before s).2, rfl, by rw [← decideStarts_fst]; rfl⟩
  rw [← hz] at line last src
  have run : z.inRun = true := by
    rw [State.inRun, show z.boot = s.boot from (congrArg State.boot src :)]; exact decide_eq_true hs
  have weather : z.weather = before.weather := (congrArg State.weather src :).trans h.weather
  have frames : ∀ y : State, y.weather = before.weather → y.inRun = true → y.line.state = .ok → y.line.tx = none →
      (y.line.waiting = [] ∨ ∃ x n a, y.line.waiting = [{ frame := .draw x, stamp := n, ann := a }]) →
      sendDraw before z = y → DrawKept y t := fun y hw hy hl' htx hwait e => by
    have passed : ∀ u : State, passage before u = false := fun u => by simp [passage, hr]
    have area := sendArea_kept Causes.none b hy hl' htx hwait
    have e4 : ∀ u : State, u.weather = before.weather → sendWeather Causes.none before u = u := fun u hu => by
      simp [sendWeather, Causes.none, passed, hu]
    have e2 : sendStatus Causes.none before y = y := by simp [sendStatus, Causes.none, passed]
    have hd : decided Causes.none before s = sendArea Causes.none b y := by
      rw [hd, sendFrames, e, e2, e4 _ (area.weather.trans hw)]
      rfl
    rw [← ht, finish_eq, hd]
    exact (area.trans (writeRetention_kept before _)).trans (syncOutputs_kept before _)
  have accepted : z.supply.accepted = s.supply.accepted := by rw [Supply.accepted, last]; rfl
  rcases sendDraw_sends hb run (by rw [line]; exact hl) (by rw [line]; exact hq) with ⟨e, k⟩ | e
  · have d := frames z weather run (by rw [line]; exact hl) (by rw [line]; exact hq.2) (.inl (by rw [line]; exact hq.1)) e
    exact absurd (d.content.trans (k.trans accepted)) hc
  · have d := frames (drawn z) weather run (by rw [← hl, ← line]; rfl) (by rw [← hq.2, ← line]; rfl) (.inr ⟨_, _, _, rfl⟩) e
    refine ⟨⟨_, d.waiting _ (List.mem_singleton.2 rfl), ?_⟩, ?_⟩
    · rw [d.content]; rfl
    · rw [d.last, d.content]; rfl

end Sys2Proof.Machine
end

section
/-! CERTIFICATES. The commit check at the announcing DRAW (O49). -/

open Sys2Proof Sys2Proof.Machine

/-- The state in which the announcing DRAW of the vent's start is sent without error. -/
structure Commits (s : State) (v : VentId) (q : Queued) (id : Nat) : Prop where
  lawful : s.DriveLaw
  station : s.boot.station = .run
  line : s.line.state = .ok
  sending : s.line.sending = true
  tx : s.line.tx = some q
  ann : q.ann = some id
  start : s.supply.start = some { vent := v, id := id }
  mark : s.supply.mark = some id

namespace Commits

variable {s t : State} {v : VentId} {q : Queued} {id : Nat} {dt : Micros}

/-- The state in which the commit check is made. -/
def sent (s : State) (q : Queued) (dt : Micros) : State := (s.tick dt).updLine fun l => l.delivered q.frame

theorem moves (h : Commits s v q id) (dt : Micros) : Moves .effect True v (sent s q dt) (commit v (sent s q dt)) :=
  commit_moves fun _ => ⟨inRun_of (s := s) (dt := dt) h.station, h.lawful.2.2.2 _ h.start⟩

theorem law (h : Commits s v q id) (dt : Micros) : (commit v (sent s q dt)).DriveLaw :=
  (h.moves dt).obeys (fun _ => h.lawful) trivial

theorem announced (h : Commits s v q id) : s.vents[v.val].state = .announced := h.lawful.2.2.2 _ h.start

theorem calm (h : Commits s v q id) (dt : Micros) : Calm (s.tick dt) (commit v (sent s q dt)) := by
  have c1 : Calm (s.tick dt) (sent s q dt) := ⟨rfl, rfl, rfl, rfl, rfl, rfl, fun _ => .rfl, fun _ => rfl⟩
  obtain ⟨held, unlocked⟩ := commit_kept v (sent s q dt)
  refine c1.trans ((h.moves dt).calm h.lawful ⟨fun k => absurd k unlocked, fun k => ?_⟩ held)
  · rw [show (sent s q dt).vents[v.val].state = .announced from h.announced] at k; cases k

theorem lineState (h : Commits s v q id) (dt : Micros) : (commit v (sent s q dt)).line.state = .ok := by
  rw [line_of_still (h.moves dt).still]
  exact (delivered_line s.line q.frame).1.trans h.line

theorem turns (h : Commits s v q id) (ht : finish Causes.none (s.tick dt) (commit v (sent s q dt)) = t) :
    Turns (FireCall (s.tick dt) v) (s.tick dt).lineDown v (commit v (sent s q dt)) t := by
  rw [← ht]
  exact finish_turns _ (h.calm dt) ((h.lineState dt).trans h.line.symm) (h.law dt) v

theorem wants (s : State) (v : VentId) (q : Queued) (dt : Micros) : (sent s q dt).wants v = (s.tick dt).wants v :=
  (SameView.mk rfl rfl (fun _ _ => rfl) ⟨rfl, rfl, rfl, rfl⟩ : SameView v (s.tick dt) (sent s q dt)).wants

theorem image (h : Commits s v q id) (dt : Micros) : (commit v (sent s q dt)).image = s.image :=
  (image_of_still (h.moves dt).still).trans rfl

/-- No call of the event reaches the vent. -/
theorem uncalled (h : Commits s v q id) (hn : s.uncallable v) (x : State) (hx : x.image = (commit v (sent s q dt)).image) :
    ¬ FireCall (s.tick dt) v x := uncallable_noCall hn (hx.trans (h.image dt))

/-- R42: the start of a vent that need not move is not taken. -/
theorem idle (h : Commits s v q id) (hn : s.uncallable v)
    (ht : finish Causes.none (s.tick dt) (commit v (sent s q dt)) = t) (hw : (s.tick dt).wants v = none) :
    t.vents[v.val].state = .idle ∧ ∀ c ∈ s.channels v, t.chans[c.val] = s.chans[c.val] := by
  obtain ⟨y, e, k⟩ := (commit_notTaken v (sent s q dt)).1 ((wants s v q dt).trans hw)
  have state : (commit v (sent s q dt)).vents[v.val].state = .idle := by rw [e, toIdle_state]
  have u := (h.turns ht).unmoved (fun x k => h.uncalled hn x k.image) (by rw [state]; exact ⟨nofun, nofun⟩)
  refine ⟨by rw [u.vent, state], fun c hc => ?_⟩
  rw [u.chans c (by rw [State.channels, State.cfg, h.image]; exact hc), e]
  exact k.chans c hc

/-- R40, R42: the start of a vent that must reverse is not taken, and the vent dwells. -/
theorem dwells (h : Commits s v q id) (hn : s.uncallable v)
    (ht : finish Causes.none (s.tick dt) (commit v (sent s q dt)) = t) {d : Dir} {k : RunKind}
    (hw : (s.tick dt).wants v = some (d, k)) (hp : s.vents[v.val].permits d = false) :
    t.vents[v.val].state = .dwell ∧ t.vents[v.val].dwellEnds = some (s.now + dt + 300000) ∧
      ∀ c ∈ s.channels v, t.chans[c.val] = s.chans[c.val] := by
  obtain ⟨y, e, k⟩ := (commit_notTaken v (sent s q dt)).2 d k ((wants s v q dt).trans hw) hp
  have now : y.now = s.now + dt := k.now
  have state : (commit v (sent s q dt)).vents[v.val].state = .dwell := by rw [e, toDwell_state]
  have u := (h.turns ht).unmoved (fun x k => h.uncalled hn x k.image) (by rw [state]; exact ⟨nofun, nofun⟩)
  refine ⟨by rw [u.vent, state], ?_, fun c hc => ?_⟩
  · rw [u.vent, e, toDwell, updVent_same, now]; rfl
  · rw [u.chans c (by rw [State.channels, State.cfg, h.image]; exact hc), e]
    exact k.chans c hc

/-- R43, R75, R76: within the feed limit the run begins. -/
theorem runs (h : Commits s v q id) (hn : s.uncallable v)
    (ht : finish Causes.none (s.tick dt) (commit v (sent s q dt)) = t) {d : Dir} {k : RunKind}
    (hw : (s.tick dt).wants v = some (d, k)) (hp : s.vents[v.val].permits d = true)
    (fits : s.ownRunning + s.ownInrush + (s.tick dt).peerDraw + s.startDraw v ≤ s.image.feedLimit) :
    t.vents[v.val].state = d.runState ∧ t.vents[v.val].lastDir = some d ∧ t.vents[v.val].runStart = s.now + dt ∧
      t.vents[v.val].runKind = some k ∧
      ∀ c ∈ s.channels v, t.chans[c.val].driven = some d ∧ t.chans[c.val].startPos = s.chans[c.val].estimate ∧
        t.chans[c.val].window = some (s.now + dt + 300000) ∧
        t.chans[c.val].inrush = some (s.now + dt + s.image.inrushMs * 1000) := by
  have holds : (sent s q dt).budgetHolds v = true := decide_eq_true fits
  have e := (commit_permitted (s := sent s q dt) ((wants s v q dt).trans hw) hp).1 holds
  have same := begunRun_same v d k (some (sent s q dt).vents[v.val].lastDir) (endStart (sent s q dt))
  rw [← e] at same
  have state : (commit v (sent s q dt)).vents[v.val].state = d.runState := by rw [same]
  have u := (h.turns ht).unmoved (fun x k => h.uncalled hn x k.image) (by rw [state]; cases d <;> exact ⟨nofun, nofun⟩)
  refine ⟨by rw [u.vent, same], by rw [u.vent, same], ?_, by rw [u.vent, same], fun c hc => ?_⟩
  · rw [u.vent, same]; rfl
  · rw [u.chans c (by rw [State.channels, State.cfg, h.image]; exact hc), e, begunRun_get,
      if_pos (show c ∈ (endStart (sent s q dt)).channels v from hc)]
    exact ⟨rfl, rfl, rfl, rfl⟩

/-- R75, R78: beyond the feed limit the vent waits with its join time; in fire mode it may be announced anew. -/
theorem waits (h : Commits s v q id) (hn : s.uncallable v)
    (ht : finish Causes.none (s.tick dt) (commit v (sent s q dt)) = t) {d : Dir} {k : RunKind}
    (hw : (s.tick dt).wants v = some (d, k)) (hp : s.vents[v.val].permits d = true)
    (fits : ¬ s.ownRunning + s.ownInrush + (s.tick dt).peerDraw + s.startDraw v ≤ s.image.feedLimit) :
    (t.vents[v.val].state = .waitSupply ∨ s.fireMode = true ∧ t.vents[v.val].state = .announced) ∧
      t.vents[v.val].joinTime = s.vents[v.val].joinTime ∧ ∀ c ∈ s.channels v, t.chans[c.val] = s.chans[c.val] := by
  have fails : (sent s q dt).budgetHolds v = false := decide_eq_false fits
  have e := (commit_permitted (s := sent s q dt) ((wants s v q dt).trans hw) hp).2 fails
  have same : (commit v (sent s q dt)).vents[v.val] =
      { s.vents[v.val] with state := .waitSupply, runKind := some k } := by rw [e, updVent_same]; rfl
  have state : (commit v (sent s q dt)).vents[v.val].state = .waitSupply := by rw [same]
  have view : SameView v (s.tick dt) (commit v (sent s q dt)) := by
    refine ⟨by rw [e]; rfl, by rw [e]; rfl, fun c hc => by rw [e]; rfl, ?_⟩
    rw [same]; exact ⟨rfl, rfl, rfl, rfl⟩
  have down : (s.tick dt).lineDown = false := by
    rw [State.lineDown, show (s.tick dt).line.state = .ok from h.line]; rfl
  have w := (h.turns ht).waits (h.uncalled hn) down (.inl state) (view.wants.trans hw) (by rw [same]; exact hp)
  obtain ⟨h1, ⟨h2, -, -⟩, h3⟩ := w
  refine ⟨?_, by rw [h2, same], fun c hc => ?_⟩
  · by_cases hf : s.fireMode = true
    · exact h1.imp (fun k => k) fun k => ⟨hf, k⟩
    · have hf : s.fireMode = false := by simpa using hf
      refine .inl ?_
      have check : (commit v (sent s q dt)).preCheck v = false := by
        have b : (commit v (sent s q dt)).budgetHolds v = false := by rw [e]; exact fails
        rw [State.preCheck, b]; rfl
      have stays := finish_fails Causes.none (h.calm dt) (h.law dt) (by rw [e]; exact hf)
        (by rw [State.lineDown, h.lineState]; rfl) state check
      rw [ht] at stays
      rw [stays, state]
  · rw [h3.chans c (by rw [State.channels, State.cfg, h.image]; exact hc), view.chans c hc]; rfl

end Commits

/-- Settles O49: the cases of the check are the model's own (`commit_notTaken`, `commit_permitted`), the completion leaves a vent
that no call reaches as it is or lets it wait (`Turns.unmoved`, `Turns.waits`), and the queue that the sent frame has left takes
the DRAW (`finish_sendsDraw`). -/
theorem commitDecides : Obligations.CommitDecides := by
  intro dt q v id s hs hr hl hn hg hq ha hst hm fits
  have h : Commits s v q id := ⟨hs, hr, hl, hg, hq, ha, hst, hm⟩
  obtain ⟨t, ht⟩ : ∃ t, finish Causes.none (s.tick dt) (commit v (Commits.sent s q dt)) = t := ⟨_, rfl⟩
  refine ⟨t, ?_, h.idle hn ht, fun d k hw => ⟨h.dwells hn ht hw, h.runs hn ht hw, h.waits hn ht hw⟩, fun hw hc => ?_⟩
  · rw [← ht]; exact exec_frameSent hr hg hq ha hst hm
  · have same := (h.moves dt).sameQueue
    obtain ⟨-, d2, d3⟩ := delivered_line s.line q.frame
    refine finish_sendsDraw (h.calm dt) (q := q) hq hr ?_ (h.lineState dt) ?_ ht ?_
    · rw [boot_of_still (h.moves dt).still]; exact hr
    · rw [same.1]; exact ⟨d2.trans hw, d3⟩
    · rw [Supply.accepted, same.2]; exact hc

end

section
/-! SUPPORT. An event that writes a record of a vent itself: the Drive Unit is handed the vent's demand once, and the rest of the
completion hands the vent nothing more. -/

namespace Sys2Proof.Machine

open Relation

variable {v : VentId} {s t u before : State} {call : State → Prop} {down : Bool}

/-! ### What a vent holds once no call reaches it -/

theorem giveStart_held (v : VentId) (s : State) : (giveStart v s).held v = s.held v := by
  rcases giveStart_cases v s with ⟨-, e⟩ | ⟨d, k, -, ⟨-, e⟩ | ⟨-, e⟩⟩ <;> rw [e]
  · simp
  · simp only [State.held, Fin.getElem_fin, beginRun_vents, updVent_same]; rfl
  · simp

theorem returnStart_held (v : VentId) (s : State) : (returnStart v s).held v = s.held v := by
  rw [returnStart, evaluateWaiting_held, updVent_held _ v _ ⟨rfl, rfl⟩, endStart_held]

theorem announce_held (v : VentId) (s : State) : (announce v s).held v = s.held v := updVent_held _ v _ ⟨rfl, rfl⟩

/-- Where no call reaches the vent, it holds its target to the end of the event. -/
theorem Turns.held (h : Turns call down v s t) (hn : ∀ x, ¬ call x) : t.held v = s.held v := by
  induction h with
  | refl => rfl
  | @tail t u _ m ih =>
    refine Eq.trans ?_ ih
    cases m with
    | keeps k => exact k.held
    | hand _ k => exact absurd k (hn _)
    | given _ _ _ _ => exact giveStart_held v _
    | announced _ _ _ => exact announce_held v _
    | back _ _ => exact returnStart_held v _

/-! ### A vent that holds its effective demand -/

/-- The Drive Unit holds the vent's effective demand, and no call alters that: a BRIGADE record stands above the FIRE record, or
fire mode does not hold (R22, R35). -/
structure Settled (v : VentId) (s : State) : Prop where
  lawful : s.DriveLaw
  held : s.held v = s.effective v
  above : s.demand[v.val].brigade.isSome = true ∨ s.fireMode = false

namespace Settled

theorem of_still (h : Settled v s) (hi : t.still = s.still) (hd : t.DriveLaw) (hh : t.held v = s.held v) : Settled v t := by
  refine ⟨hd, by rw [hh, h.held, effective_of_still hi], ?_⟩
  rw [demand_of_still hi]
  refine h.above.imp id fun k => ?_
  simpa only [State.fireMode, fire_of_still hi] using k

theorem hands_none (h : Settled v s) (who : VentId → Bool) (before : State) : handsOn who before s v = false := by
  simp [handsOn, h.held]

theorem settle (h : Settled v s) (who : VentId → Bool) (hl : before.vents[v.val].state = .locked → s.vents[v.val].state = .locked) :
    Keeps v s (settleDemands who before s) ∧ Settled v (settleDemands who before s) := by
  obtain ⟨u, h1, -, -, h2, h3, h4⟩ := settleDemands_unreleased (v := v) (before := before) who h.lawful hl
  rw [h.hands_none, if_neg Bool.false_ne_true] at h2
  have k := h1.trans h2
  exact ⟨k, h.of_still h3 h4 k.held⟩

/-- R22: the calls of a recompute write no record above the BRIGADE record. -/
theorem recalled (h : Settled v s) (z : Zone) (hb : s.demand[v.val].brigade.isSome = true) : Settled v (recalled z s) := by
  have a := recalled_aside z s
  have held : (Machine.recalled z s).held v = s.held v := (a.keeps v).held
  refine ⟨a.driveLaw h.lawful, ?_, .inl ?_⟩
  · rw [held, h.held]
    simp only [State.effective, Fin.getElem_fin]
    rcases recalled_demand z s v with e | ⟨take, x, e, -⟩ <;> rw [e]
    exact (Records.effective_fire_above hb).symm
  · rcases recalled_demand z s v with e | ⟨take, x, e, -⟩ <;> rw [e] <;> exact hb

/-- R24, R35: a recompute, or its absence, hands such a vent nothing. -/
theorem rebalance (h : Settled v s) (b : Bool) (hl : before.vents[v.val].state = .locked → s.vents[v.val].state = .locked) :
    Keeps v s (rebalance b before s) ∧ Settled v (Machine.rebalance b before s) := by
  unfold Machine.rebalance
  split
  swap
  · exact h.settle everyVent hl
  next hm =>
  have hb : s.demand[v.val].brigade.isSome = true := by
    refine h.above.resolve_right fun k => ?_
    rw [k, Bool.and_false] at hm; cases hm
  unfold recompute
  split
  · exact ⟨.refl v s, h⟩
  next z _ =>
  have a := recalled_aside z s
  obtain ⟨k1, k2⟩ := (h.recalled z hb).settle (before := before) everyVent (by rw [a.vents]; exact hl)
  rw [Machine.recalled] at k1 k2
  have k0 : Keeps v s (syncPattern s (allocate z s)) := (recalled_aside z s).keeps v
  generalize settleDemands everyVent before (syncPattern s (allocate z s)) = y at *
  obtain ⟨r, e, -⟩ := formReport_eq z (s.primarySum z, s.offerSum z) y
  have f : Aside y (y.withArea r) := withArea_aside _ _
  rw [e]
  exact ⟨(k0.trans k1).trans (f.keeps v), f.driveLaw k2.lawful, k2.held, k2.above⟩

theorem schedule (h : Settled v s) (x : State) :
    Turns call s.lineDown v s (schedule x s) ∧ Settled v (Machine.schedule x s) := by
  obtain ⟨h1, h2, h3⟩ := schedule_turns (v := v) (call := call) x h.lawful
  obtain ⟨k, -, -⟩ := schedule_turns (v := v) (call := fun _ => False) x h.lawful
  exact ⟨h1, h.of_still h2 h3 (k.held fun _ => id)⟩

end Settled

/-- R24: what the completion makes of a vent whose demand is handed on by the end of the first recompute. -/
theorem finish_settled (c : Causes) (h : Settled v (balanced c before s)) (hl : (balanced c before s).lineDown = down) :
    Turns (fun _ => False) down v (balanced c before s) (finish c before s) := by
  refine finish_rounds (I := fun y => Settled v y ∧ y.lineDown = down) c (fun k => k.1.lawful) ⟨h, hl⟩ ?_ ?_
  · rintro y b ⟨k1, k2⟩
    obtain ⟨j1, j2⟩ := k1.rebalance (before := y) b id
    exact ⟨j1.turns, j2, (lineDown_of_sources (rebalance_sources b y y)).trans k2⟩
  · rintro y x ⟨k1, k2⟩
    obtain ⟨j1, j2⟩ := k1.schedule (call := fun _ => False) x
    rw [k2] at j1
    exact ⟨j1, j2, (lineDown_of_sources (schedule_sources x y)).trans k2⟩

/-! ### The demand handed on (R24) -/

/-- A vent that has been handed its demand is settled, where no call can alter it. -/
theorem handed_settled {y : State} (hi : u.still = s.still) (k : Keeps v (handOnVent v u) y) (hy : y.still = s.still)
    (hd : y.DriveLaw) (above : s.demand[v.val].brigade.isSome = true ∨ s.fireMode = false) : Settled v y := by
  refine ⟨hd, by rw [k.held, handOnVent_held, effective_of_still hi, effective_of_still hy], ?_⟩
  rw [demand_of_still hy]
  refine above.imp id fun k => ?_
  simpa only [State.fireMode, fire_of_still hy] using k

/-- R24, R36: an event that changes the effective demand of a vent, where no call can alter it and no lock is released, hands the
demand on, at once or after the recompute that it waits for; after that the vent is handed nothing. -/
theorem demand_handed (c : Causes) (hd : s.DriveLaw) (hu : s.used v = true) (hr : syncRecords before s = s)
    (hl : before.vents[v.val].state ≠ .locked) (hb : before.effective v ≠ s.effective v) (hh : s.held v ≠ s.effective v)
    (above : s.demand[v.val].brigade.isSome = true ∨ s.fireMode = false) :
    ∃ u, Keeps v s u ∧ u.still = s.still ∧ u.DriveLaw ∧
      Turns (fun _ => False) s.lineDown v (handOnVent v u) (finish c before s) := by
  have line : (balanced c before s).lineDown = s.lineDown :=
    lineDown_of_sources ((rebalance_sources _ before _).trans (align_sources before s))
  have locked : ∀ {x : State}, before.vents[v.val].state = .locked → x.vents[v.val].state = .locked := fun k => absurd k hl
  have hands : ∀ (who : VentId → Bool) {x : State}, Keeps v s x → x.still = s.still → who v = true →
      handsOn who before x v = true := fun who x k hi hw => by
    simp [handsOn, hw, used_of_still hi, effective_of_still hi, k.held, hu, hb, hh]
  have ha : align before s = settleDemands (fun w => !s.awaitsCalls w) before s := by rw [align, hr]
  obtain ⟨u, h1, h2, h3, h4, h5, h6⟩ :=
    settleDemands_unreleased (v := v) (before := before) (fun w => !s.awaitsCalls w) hd locked
  rw [← ha] at h4 h5 h6
  cases hw : s.awaitsCalls v
  · rw [hands _ (.refl v s) rfl (by rw [hw]; rfl), if_pos rfl] at h4
    have k := handed_settled h2 h4 h5 h6 above
    obtain ⟨j1, j2⟩ := k.rebalance (balanceDue c before s (align before s)) locked
    exact ⟨u, h1, h2, h3, h4.turns.trans (j1.turns.trans (finish_settled c j2 line))⟩
  · have nh : handsOn (fun w => !s.awaitsCalls w) before s v = false := by simp [handsOn, hw]
    rw [nh, if_neg Bool.false_ne_true] at h4
    have hm : s.fireMode = false := by
      refine above.resolve_left fun k => ?_
      have hn : s.demand[v.val].brigade.isNone = false := by
        rw [← Option.not_isSome, k]; rfl
      unfold State.awaitsCalls at hw
      split at hw
      · simp only [Fin.getElem_fin, hn, Bool.and_false, Bool.false_and] at hw; cases hw
      · cases hw
    have hm' : (align before s).fireMode = false := by rw [State.fireMode, fire_of_still h5]; exact hm
    have hb' : balanced c before s = settleDemands everyVent before (align before s) := by
      rw [balanced, rebalance, hm', Bool.and_false, Bool.false_and, if_neg Bool.false_ne_true]
    obtain ⟨x, k1, k2, k3, k4, k5, k6⟩ :=
      settleDemands_unreleased (v := v) (s := align before s) (before := before) everyVent h6 locked
    rw [hands _ (h1.trans h4) h5 rfl, if_pos rfl] at k4
    have k := handed_settled (k2.trans h5) k4 (k5.trans h5) k6 above
    have p := finish_settled (v := v) (s := s) (before := before) c (by rw [hb']; exact k) line
    rw [hb'] at p
    exact ⟨x, (h1.trans h4).trans k1, k2.trans h5, k3, k4.turns.trans p⟩

end Sys2Proof.Machine
end

section
/-! SUPPORT. What a new demand makes of a vent that runs (R54 to R56, R83). -/

namespace Sys2Proof.Machine

open Relation

variable {v : VentId} {d : Dir} {s t u : State} {dt : Micros} {down : Bool}

/-! ### The vent with its new demand noted -/

/-- R24: a vent with a new target and class noted. -/
def Vent.aimed (x : Target) (k : DemandClass) (y : Vent) : Vent := { y with target := x, cls := k }

/-- R24: the state with a vent's effective demand noted. -/
def noted (v : VentId) (s : State) : State := s.updVent v (Vent.aimed (s.effective v).1 (s.effective v).2)

@[simp] theorem noted_same (v : VentId) (s : State) :
    (noted v s).vents[v.val] = s.vents[v.val].aimed (s.effective v).1 (s.effective v).2 := updVent_same s v _
@[simp] theorem noted_chans (v : VentId) (s : State) : (noted v s).chans = s.chans := rfl
@[simp] theorem noted_channels (v w : VentId) (s : State) : (noted v s).channels w = s.channels w := rfl
@[simp] theorem noted_used (v : VentId) (s : State) : (noted v s).used v = s.used v := rfl

@[simp] theorem noted_chanPos (v : VentId) (s : State) (c : ChanId) : (noted v s).chanPos v c = s.chanPos v c := by
  simp only [State.chanPos, noted_chans, Fin.getElem_fin, noted_same, Vent.aimed]; rfl

@[simp] theorem noted_ventPos (v : VentId) (s : State) : (noted v s).ventPos v = s.ventPos v := by
  simp only [State.ventPos, noted_channels, noted_chanPos]

/-- R54 to R56: in RUN a running vent that is handed a demand. -/
theorem handOnVent_meets (hr : s.inRun = true) (hs : s.vents[v.val].state = d.runState) :
    handOnVent v s = if (s.effective v).1 = s.vents[v.val].target then noted v s
      else meetTarget v d (s.effective v).1 (noted v s) := by
  have hi : (noted v s).inRun = true := hr
  have hv : (noted v s).vents[v].state = d.runState := by rw [Fin.getElem_fin, noted_same]; exact hs
  show takeDemand v (s.effective v).1 (s.effective v).2 s = _
  unfold takeDemand
  change (if (noted v s).inRun = true then _ else _) = _
  rw [if_pos hi]
  change (match (noted v s).vents[v].state with
    | .idle => _ | .waitSupply => _ | .announced => _ | .runOpen => _ | .runClose => _ | .dwell => _ | .locked => _
    | .stalled => _) = _
  rw [hv]
  cases d <;> rfl

/-- R54 to R56: a running vent that is handed another target meets it. -/
theorem handOnVent_running (hr : s.inRun = true) (hs : s.vents[v.val].state = d.runState)
    (ht : s.vents[v.val].target ≠ (s.effective v).1) :
    handOnVent v s = meetTarget v d (s.effective v).1 (noted v s) := by
  rw [handOnVent_meets hr hs, if_neg fun k => ht k.symm]

/-- R54 to R56: a running vent that is handed a demand notes it, and meets a target that is new. -/
theorem handOnVent_running_cases (hs : s.vents[v.val].state = d.runState) : handOnVent v s = noted v s ∨
    s.vents[v.val].target ≠ (s.effective v).1 ∧ handOnVent v s = meetTarget v d (s.effective v).1 (noted v s) := by
  by_cases hr : s.inRun = true
  · by_cases ht : s.vents[v.val].target = (s.effective v).1
    · refine .inl ?_
      rw [handOnVent_meets hr hs, if_pos ht.symm]
    · exact .inr ⟨ht, handOnVent_running hr hs ht⟩
  · exact .inl (if_neg hr)

/-! ### What the completion leaves of it -/

/-- R54: the channels of a vent that has stopped where it was. -/
theorem stopped_in {r : State} (k : Keeps v (s.tick dt) u) (hc : r.chans = (stopInPlace v (noted v u)).chans)
    (hi : r.image = u.image) (j : Keeps v r t) : s.stoppedIn t dt v := by
  intro c m
  have mu : c ∈ u.channels v := by rw [k.channels]; exact m
  have mr : c ∈ r.channels v := by rw [State.channels, State.cfg, hi]; exact mu
  have e := (stopDriven_stoppedAt v _ (noted v u)).here (e := c) mu
  simp only [Fin.getElem_fin, j.chans c mr, hc]
  refine ⟨e.1, e.2.trans ?_⟩
  rw [noted_chanPos, k.chanPos m, chanPos_tick]

/-- R55: the vent's run goes on, as `f` says. -/
theorem goes_on {f : Vent → Vent} (k : Keeps v (s.tick dt) u) (p : Turns (fun _ => False) down v (u.updVent v f) t)
    (hs : s.vents[v.val].state = d.runState)
    (hf : ∀ x, (f x).state = x.state ∧ (f x).runStart = x.runStart ∧ (f x).lastDir = x.lastDir) {r : RunKind}
    (hk : (f s.vents[v.val]).runKind = some r) : s.goesOnIn t v r ∧ t.vents[v.val] = f s.vents[v.val] := by
  have e : (u.updVent v f).vents[v.val] = f s.vents[v.val] := by rw [updVent_same, k.vent]; rfl
  have j : Keeps v (u.updVent v f) t := p.unmoved (fun _ _ => id) (by
    rw [e, (hf _).1, hs]; cases d <;> exact ⟨nofun, nofun⟩)
  obtain ⟨f1, f2, f3⟩ := hf s.vents[v.val]
  have ev := j.vent.trans e
  refine ⟨⟨?_, ?_, ?_, ?_, fun c m => ?_⟩, ev⟩
  · rw [Fin.getElem_fin, ev, f1]; rfl
  · rw [Fin.getElem_fin, ev, hk]
  · rw [Fin.getElem_fin, ev, f2]; rfl
  · rw [Fin.getElem_fin, ev, f3]; rfl
  · have mu : c ∈ u.channels v := by rw [k.channels]; exact m
    exact (j.chans c mu).trans (k.chans c m)

/-- R56: the vent stops where it is, counts the stop and dwells. -/
theorem dwells_in (k : Keeps v (s.tick dt) u)
    (p : Turns (fun _ => False) down v (toDwell v (countStop v (stopInPlace v (noted v u)))) t) :
    s.dwellsIn t dt v ∧ t.vents[v.val].stops = s.stopCounted v ∧ t.vents[v.val].retries = s.vents[v.val].retries := by
  have e : (toDwell v (countStop v (stopInPlace v (noted v u)))).vents[v.val] =
      { (s.vents[v.val].aimed (u.effective v).1 (u.effective v).2).counted with
        state := .dwell, runKind := none, stopTime := none, dwellEnds := some (s.now + dt + 300000), coolEnds := none } := by
    have n : (countStop v (stopInPlace v (noted v u))).now = s.now + dt := (now_of_still (stopInPlace_still v (noted v u))).trans k.now
    rw [toDwell, updVent_same, countStop_same, stopInPlace_vents, noted_same, k.vent, n]; rfl
  have j := p.unmoved (fun _ _ => id) (by rw [e]; exact ⟨nofun, nofun⟩)
  have ev := j.vent.trans e
  refine ⟨⟨stopped_in (r := toDwell v (countStop v (stopInPlace v (noted v u)))) k rfl
    (image_of_still (stopInPlace_still v (noted v u))) j, ?_, ?_, ?_⟩, ?_, ?_⟩ <;>
    simp only [Fin.getElem_fin, ev]
  · rfl
  · rfl
  · rfl

/-- R54, R83: HOLD stops the vent; a start that a commit check gave at this moment is not taken. -/
theorem holds_in (k : Keeps v (s.tick dt) u) (ht : (u.effective v).1 = .hold)
    (p : Turns (fun _ => False) down v (meetHold v (noted v u)) t) :
    t.vents[v.val].state = .idle ∧ s.stoppedIn t dt v ∧ t.vents[v.val].retries = s.vents[v.val].retries ∧
      (∀ old, s.vents[v.val].runStart = s.now + dt → s.vents[v.val].committed = some old →
        t.vents[v.val].lastDir = old ∧ t.vents[v.val].stops = s.vents[v.val].stops) ∧
      (s.vents[v.val].runStart ≠ s.now + dt ∨ s.vents[v.val].committed = none →
        t.vents[v.val].lastDir = s.vents[v.val].lastDir ∧ t.vents[v.val].stops = s.stopCounted v) := by
  have rests : ∀ x : State, x.vents[v.val].target = .hold → evaluate v (toIdle v x) = toIdle v x := fun x hx => by
    rw [evaluate_toIdle, evaluate, wants_hold hx]
  have same : (stopInPlace v (noted v u)).vents[v.val] = s.vents[v.val].aimed (u.effective v).1 (u.effective v).2 := by
    rw [stopInPlace_vents, noted_same, k.vent]; rfl
  have start : (noted v u).vents[v.val].runStart = s.vents[v.val].runStart := by rw [noted_same, k.vent]; rfl
  have begun : (noted v u).vents[v.val].committed = s.vents[v.val].committed := by rw [noted_same, k.vent]; rfl
  have now : (noted v u).now = s.now + dt := k.now
  have img := image_of_still (stopInPlace_still v (noted v u))
  have held : ∀ {x r : State}, x.vents[v.val].target = .hold → x.chans = (stopInPlace v (noted v u)).chans → x.image = u.image →
      r = toIdle v x → Turns (fun _ => False) down v r t → t.vents[v.val] = (toIdle v x).vents[v.val] ∧ s.stoppedIn t dt v := by
    rintro x r - hc hi rfl q
    have j := q.unmoved (fun _ _ => id) (by rw [toIdle_state]; exact ⟨nofun, nofun⟩)
    exact ⟨j.vent, stopped_in (r := toIdle v x) k hc hi j⟩
  rcases meetHold_cases v (noted v u) with ⟨old, hn, hc, e⟩ | ⟨hn, e⟩ <;> rw [e] at p
  · rw [start, now] at hn
    rw [begun] at hc
    have hx : ((stopInPlace v (noted v u)).updVent v fun x => { x with lastDir := old }).vents[v.val].target = .hold := by
      rw [updVent_same, same]; exact ht
    obtain ⟨ev, hs⟩ := held hx rfl img (rests _ hx) p
    rw [toIdle, updVent_same, updVent_same, same] at ev
    refine ⟨by rw [ev], hs, by rw [ev]; rfl, fun o _ ho => ?_, fun h => ?_⟩
    · rw [hc] at ho
      obtain rfl := Option.some.inj ho
      rw [ev]; exact ⟨rfl, rfl⟩
    · rcases h with h | h
      · exact absurd hn h
      · rw [hc] at h; cases h
  · rw [start, now, begun] at hn
    have hx : (countStop v (stopInPlace v (noted v u))).vents[v.val].target = .hold := by
      rw [countStop_same, same]; exact ht
    obtain ⟨ev, hs⟩ := held hx rfl img (rests _ hx) p
    rw [toIdle, updVent_same, countStop_same, same] at ev
    refine ⟨by rw [ev], hs, by rw [ev]; rfl, fun o h1 h2 => ?_, fun _ => by rw [ev]; exact ⟨rfl, rfl⟩⟩
    rcases hn with h | h
    · exact absurd h1 h
    · rw [h] at h2; cases h2

/-! ### The ends of the travel (R55, R56) -/

/-- R55: the end a vent moves to makes of its run a run to that end. -/
theorem meetTarget_ahead (v : VentId) (d : Dir) (s : State) :
    meetTarget v d (.pos d.endPos) s = s.updVent v fun x => { x with runKind := some .toEnd, stopTime := none } := by
  cases d <;> rfl

/-- The direction opposite to a run's. -/
def Dir.other : Dir → Dir
  | .opening => .closing
  | .closing => .opening

/-- R56: the other end stops it. -/
theorem meetTarget_behind (v : VentId) (d : Dir) (s : State) :
    meetTarget v d (.pos d.other.endPos) s = toDwell v (countStop v (stopInPlace v s)) := by
  cases d <;> rfl

/-! ### A target between the ends (R55, R56) -/

theorem meetTarget_between {p : Nat} (h0 : 0 < p) (h1 : p < 1000) :
    meetTarget v d (.pos p) s = meetIntermediate v d p s := if_neg (by omega)

/-- R55: an anchoring run, and a run to an end with re-anchoring due, goes on as an anchoring run. -/
theorem meetIntermediate_anchors {p : Nat} (h : s.vents[v.val].runKind = some .anchoring ∨
    s.vents[v.val].runKind = some .toEnd ∧ s.reanchorDue v = true) :
    meetIntermediate v d p s = s.updVent v fun x => { x with runKind := some .anchoring } := by
  unfold meetIntermediate
  rcases h with h | ⟨h, k⟩ <;> simp only [Fin.getElem_fin, h]
  · refine (updVent_self s v _ ?_).symm
    rw [Fin.getElem_fin, ← h]
  · rw [k]; rfl

theorem meetIntermediate_retargets {p : Nat} (h : ¬ (s.vents[v.val].runKind = some .anchoring ∨
    s.vents[v.val].runKind = some .toEnd ∧ s.reanchorDue v = true)) :
    meetIntermediate v d p s = retarget v d p s := by
  rw [not_or] at h
  obtain ⟨h1, h2⟩ := h
  unfold meetIntermediate
  split
  · next k => exact absurd k h1
  · next k => rw [if_neg fun j => h2 ⟨k, j⟩]
  · rfl
  · rfl

/-- R55, R56: where a run to a stop meets a target between the ends. -/
theorem retarget_some {p x : Nat} (h : s.ventPos v = some x) :
    (x = p → retarget v d p s = stopAt v p s) ∧
      ((match d with | .opening => x < p | .closing => p < x) → retarget v d p s = s.updVent v fun y =>
        { y with runKind := some .toStop, stopTime := s.runStop v d .toStop s.vents[v.val].runStart (s.runStartPos v) }) ∧
      ((match d with | .opening => p < x | .closing => x < p) →
        retarget v d p s = toDwell v (countStop v (stopInPlace v s))) := by
  unfold retarget
  rw [h]
  refine ⟨fun k => if_pos k, fun k => ?_, fun k => ?_⟩
  · have ha : ahead d x p = true := by cases d <;> exact decide_eq_true k
    have hx : x ≠ p := by rintro rfl; cases d <;> exact absurd k (lt_irrefl _)
    exact (if_neg hx).trans (if_pos ha)
  · have ha : ahead d x p = false := by cases d <;> exact decide_eq_false (lt_asymm k)
    have hx : x ≠ p := by rintro rfl; cases d <;> exact absurd k (lt_irrefl _)
    exact (if_neg hx).trans (if_neg (by rw [ha]; nofun))

theorem runStop_toStop {q : Nat} (h : s.vents[v.val].target = .pos q) (start : Micros) (p0 : Nat) :
    s.runStop v d .toStop start (some p0) = some (stopTimeOf (s.cfg v) d start p0 q) := by
  simp only [State.runStop, Fin.getElem_fin, h]

/-- R45: the common run start position of channels that all run from one. -/
theorem runStartPos_common (hu : s.used v = true) {p0 : Nat}
    (h : ∀ c ∈ s.channels v, s.chans[c.val].driven = some d ∧ s.chans[c.val].startPos = some p0) :
    s.runStartPos v = some p0 := by
  obtain ⟨c, l, e⟩ : ∃ c l, s.channels v = c :: l := by
    rcases channels_of_used hu with ⟨c, e⟩ | ⟨c, o, e⟩ <;> exact ⟨c, _, e⟩
  obtain ⟨h1, h2⟩ := h c (by rw [e]; simp)
  unfold State.runStartPos
  rw [e, List.find?_cons_of_pos (by simp [h1])]
  exact h2

end Sys2Proof.Machine
end

section
/-! SUPPORT. The records that an OVERRIDE and a COMFORT frame write for a running vent, and the ends of a run that its own timers
bring (R25, R26, R31, R45, R52). -/

namespace Sys2Proof.Machine

open Relation

variable {v : VentId} {d : Dir} {s t u : State} {dt : Micros}

/-! ### Records written vent by vent -/

/-- What an operation for each of the eight vents makes of the items of one of them. -/
theorem forEight_own {X : Type} {f : State → VentId → State} {g : State → VentId → X} {h : X → X} {P : State → Prop}
    (hP : ∀ u w, P u → P (f u w)) (ho : ∀ u w, P u → v ≠ w → g (f u w) v = g u v)
    (hv : ∀ u, P u → g (f u v) v = h (g u v)) (hs : P s) : P (forEight f s) ∧ g (forEight f s) v = h (g s v) := by
  have skip : ∀ (l : List VentId) (s : State), P s → v ∉ l → P (l.foldl f s) ∧ g (l.foldl f s) v = g s v := by
    intro l
    induction l with
    | nil => exact fun s hs _ => ⟨hs, rfl⟩
    | cons w l ih =>
      intro s hs hl
      rw [List.mem_cons, not_or] at hl
      obtain ⟨h1, h2⟩ := ih (f s w) (hP s w hs) hl.2
      exact ⟨h1, h2.trans (ho s w hs hl.1)⟩
  obtain ⟨e, ha, hb⟩ := eight_split v
  generalize eight.take v.val = a at *
  generalize eight.drop (v.val + 1) = b at *
  obtain ⟨h1, h2⟩ := skip a s hs ha
  obtain ⟨k1, k2⟩ := skip b _ (hP _ v h1) hb
  have fold : forEight f s = b.foldl f (f (a.foldl f s) v) := by
    unfold forEight; rw [e, List.foldl_append, List.foldl_cons]
  rw [fold]
  exact ⟨k1, by rw [k2, hv _ h1, h2]⟩

/-- The state without the records and the vents' items. -/
def State.unwritten (s : State) : State := { s with demand := State.reset.demand, vents := State.reset.vents }

/-- Records are written and locks are released, and nothing else happens. -/
structure Written (s u : State) : Prop where
  rest : u.unwritten = s.unwritten
  locks : ∀ w : VentId, u.vents[w.val].state = .locked → s.vents[w.val].state = .locked

namespace Written

theorem refl (s : State) : Written s s := ⟨rfl, fun _ => id⟩

variable (h : Written s u)
include h

theorem image : u.image = s.image := (congrArg State.image h.rest :)
theorem chans : u.chans = s.chans := (congrArg State.chans h.rest :)
theorem now : u.now = s.now := (congrArg State.now h.rest :)
theorem line : u.line = s.line := (congrArg State.line h.rest :)
theorem boot : u.boot = s.boot := (congrArg State.boot h.rest :)
theorem fire : u.fire = s.fire := (congrArg State.fire h.rest :)

theorem used (w : VentId) : u.used w = s.used w := by rw [State.used, State.cfg, h.image]; rfl

theorem keeps (e : u.vents[v.val] = s.vents[v.val]) : Keeps v s u :=
  ⟨e, fun c _ => by rw [h.chans], h.image, h.now⟩

theorem area : u.area = s.area := (congrArg State.area h.rest :)
theorem windward : u.windward = s.windward := (congrArg State.windward h.rest :)
theorem weather : u.weather = s.weather := (congrArg State.weather h.rest :)

theorem updRecords (w : VentId) (f : Records → Records) : Written s (u.updRecords w f) := ⟨h.rest, h.locks⟩

theorem unlock (w : VentId) : Written s (u.updVent w Vent.unlock) := by
  refine ⟨h.rest, fun x k => h.locks x ?_⟩
  rw [updVent_get] at k
  split at k
  · next e =>
    subst e
    unfold Vent.unlock at k
    split at k
    · cases k
    · exact k
  · exact k

end Written

/-- R25, R27: what one arrival makes of the vent it is for. -/
theorem brigadeArrival_own {a : Action} {o : Origin} (hu : s.used v = true) :
    (brigadeArrival a o s v).demand[v.val].brigade = a.target.map (fun x => { target := x, origin := o, expiry := none }) ∧
      (brigadeArrival a o s v).vents[v.val] = if a.unlocks then s.vents[v.val].unlock else s.vents[v.val] := by
  rw [brigadeArrival, if_pos hu]
  split
  · refine ⟨?_, updVent_same _ v _⟩
    exact congrArg Records.brigade (updRecords_same s v fun r =>
      { r with brigade := a.target.map fun t => { target := t, origin := o, expiry := none } })
  · exact ⟨by rw [updRecords_same], rfl⟩

theorem brigadeArrival_written {w : VentId} (a : Action) (o : Origin) (h : Written s u) : Written s (brigadeArrival a o u w) := by
  unfold brigadeArrival
  split
  · simp only
    split
    · exact (h.updRecords w _).unlock w
    · exact h.updRecords w _
  · exact h

theorem brigadeArrival_other {w : VentId} (a : Action) (o : Origin) (hv : v ≠ w) :
    (brigadeArrival a o u w).demand[v.val].brigade = u.demand[v.val].brigade ∧
      (brigadeArrival a o u w).vents[v.val] = u.vents[v.val] := by
  unfold brigadeArrival
  split
  · simp only
    split
    · refine ⟨?_, by rw [updVent_other _ hv]; rfl⟩
      exact congrArg Records.brigade (updRecords_other u hv fun r =>
        { r with brigade := a.target.map fun t => { target := t, origin := o, expiry := none } })
    · exact ⟨by rw [updRecords_other _ hv], rfl⟩
  · exact ⟨rfl, rfl⟩

/-- R25, R26: what an OVERRIDE makes of a running vent that its scope names. -/
theorem applyOverride_own (a : Action) {sc : Scope} (hu : s.used v = true) (hs : s.vents[v.val].state ≠ .locked)
    (hn : scopeNames s sc v = true) : Written s (applyOverride a sc s) ∧
      (applyOverride a sc s).vents[v.val] = s.vents[v.val] ∧
      (applyOverride a sc s).demand[v.val].brigade = a.target.map fun x => { target := x, origin := .panel, expiry := none } := by
  have names : ∀ {u : State}, Written s u → scopeNames u sc v = true := fun k => by
    rw [← hn]; unfold scopeNames; rw [State.cfg, k.image]; rfl
  obtain ⟨h1, h2⟩ := forEight_own (v := v) (s := s) (P := fun u => Written s u)
    (f := fun s v => if scopeNames s sc v then brigadeArrival a .panel s v else s)
    (g := fun u w => (u.demand[w.val].brigade, u.vents[w.val]))
    (h := fun x => (a.target.map fun x => { target := x, origin := .panel, expiry := none },
      if a.unlocks then x.2.unlock else x.2))
    (fun u w k => by
      split
      · exact brigadeArrival_written a .panel k
      · exact k)
    (fun u w k hv => by
      split
      · exact Prod.ext (brigadeArrival_other a .panel hv).1 (brigadeArrival_other a .panel hv).2
      · rfl)
    (fun u k => by
      simp only [names k, if_true]
      have hu : u.used v = true := (k.used v).trans hu
      exact Prod.ext (brigadeArrival_own hu).1 (brigadeArrival_own hu).2) (.refl s)
  obtain ⟨e1, e2⟩ := Prod.mk.inj h2
  refine ⟨h1, e2.trans ?_, e1⟩
  rw [Vent.unlock, if_neg hs, ite_self]

/-- R31: what a COMFORT frame makes of an eligible vent of its zones. -/
theorem applyComfort_own {zones : ZoneSet} (x hold : Nat) (hu : s.used v = true) (hb : s.mains.battery = false)
    (hc : (s.cfg v).comfort = true) (hz : memberOf (s.cfg v).home zones = true) :
    Written s (applyComfort zones x hold s) ∧ (applyComfort zones x hold s).vents[v.val] = s.vents[v.val] ∧
      ∃ r, r.target = .pos (clamp 0 1000 x) ∧
        (applyComfort zones x hold s).demand[v.val] = { s.demand[v.val] with comfort := some r } := by
  have named : ∀ {u : State}, Written s u → (u.used v && (u.cfg v).comfort && memberOf (u.cfg v).home zones) = true := fun k => by
    rw [k.used, State.cfg, k.image]
    show (s.used v && (s.cfg v).comfort && memberOf (s.cfg v).home zones) = true
    rw [hu, hc, hz]; rfl
  rw [applyComfort, if_neg (by rw [hb]; nofun)]
  obtain ⟨h1, h2⟩ := forEight_own (v := v) (s := s) (P := fun u => Written s u)
    (f := fun u w => if u.used w && (u.cfg w).comfort && memberOf (u.cfg w).home zones then
        u.updRecords w fun r => { r with comfort := some (comfortRecord u x hold) } else u)
    (g := fun u w => (u.demand[w.val], u.vents[w.val]))
    (h := fun y => ({ y.1 with comfort := some (comfortRecord s x hold) }, y.2))
    (fun u w k => by
      split
      · exact k.updRecords w _
      · exact k)
    (fun u w k hv => by
      split
      · rw [updRecords_other _ hv]; rfl
      · rfl)
    (fun u k => by
      have e : comfortRecord u x hold = comfortRecord s x hold := by rw [comfortRecord, k.now]; rfl
      simp only [named k, if_true, updRecords_same, e]; rfl) (.refl s)
  obtain ⟨e1, e2⟩ := Prod.mk.inj h2
  exact ⟨h1, e2, _, rfl, e1⟩

/-! ### A frame that writes a running vent's record -/

theorem receive_taken (hr : s.boot.station = .run) (q : Nat) (f : State → State) :
    receive dt q f s = .next (finish Causes.none (s.tick dt) (f (hear q (s.tick dt)))) := by
  refine plainEvent_taken ?_
  have h : (s.tick dt).boot.station = .run := hr
  rw [State.active, h]; rfl

/-- R24, R54 to R56: a running vent whose record a frame writes meets its new target, and holds it to the end of the event. -/
theorem written_meets {q : Nat} {x : State} (hfin : finish Causes.none (s.tick dt) x = t) (hd : x.DriveLaw)
    (h : Written (hear q (s.tick dt)) x) (hr : s.boot.station = .run)
    (ha : s.ArbiterLaw) (hu : s.used v = true) (hs : s.vents[v.val].state = d.runState)
    (hv : x.vents[v.val] = s.vents[v.val]) (ht : s.vents[v.val].target ≠ (x.effective v).1)
    (above : x.demand[v.val].brigade.isSome = true ∨ x.fireMode = false) :
    ∃ u, Keeps v (s.tick dt) u ∧ u.effective v = x.effective v ∧
      Turns (fun _ => False) x.lineDown v (meetTarget v d (x.effective v).1 (noted v u)) t ∧
      t.vents[v.val].target = (x.effective v).1 := by
  have holds : s.held v = s.effective v := (ha.2.2 v).2.2 hu
  have hx : x.held v = s.held v := by simp only [State.held, Fin.getElem_fin, hv]
  have differs : s.held v ≠ x.effective v := fun e => ht (congrArg Prod.fst e)
  have heard : Keeps v (s.tick dt) (hear q (s.tick dt)) := ⟨rfl, fun _ _ => rfl, rfl, rfl⟩
  have k0 : Keeps v (s.tick dt) x := heard.trans (h.keeps hv)
  have hu' : x.used v = true := (h.used v).trans hu
  have synced : syncRecords (s.tick dt) x = x := syncRecords_unmoved (by rw [h.fire]; rfl) h.area h.windward h.weather h.locks
  obtain ⟨u, k1, k2, k3, p⟩ := demand_handed (v := v) (before := s.tick dt) Causes.none hd hu' synced
    (by rw [show (s.tick dt).vents[v.val].state = d.runState from hs]; cases d <;> nofun)
    (fun e => differs (holds.trans e)) (by rw [hx]; exact differs) above
  rw [hfin] at p
  have k := k0.trans k1
  have eff : u.effective v = x.effective v := effective_of_still k2 v
  have run : u.inRun = true := by
    rw [inRun_of_still k2, State.inRun, h.boot]; exact decide_eq_true hr
  have hold := p.held fun _ => id
  rw [handOnVent_held, eff] at hold
  rw [handOnVent_running (d := d) run (by rw [k.vent]; exact hs) (by rw [eff, k.vent]; exact ht), eff] at p
  exact ⟨u, k, eff, p, congrArg Prod.fst hold⟩

/-! ### A run that its own timers end (R45, R52) -/

/-- R45: the run ends at its target. -/
theorem stopAt_ends {p : Nat} {y : State} {call : State → Prop} (w : Turns call false v (stopAt v p y) t) :
    t.vents[v.val].retries = 0 ∧
      t.vents[v.val].stops = (if y.vents[v.val].stops < 8 then y.vents[v.val].stops + 1 else y.vents[v.val].stops) ∧
      StoppedAt v (fun _ => some p) y t := by
  have still : (stopAt v p y).still = y.still := by rw [stopAt_eq]; simp [toIdle]
  have chans : (stopAt v p y).chans = (stopDriven v (fun _ => some p) y).chans := by rw [stopAt_eq, evaluate_chans]; rfl
  obtain ⟨-, ⟨e1, e2, -⟩, e3, -⟩ := w.rests rfl (by rw [stopAt_eq]; exact evaluate_running v _)
  have same : (stopAt v p y).vents[v.val].stops = saturate Config.stopLimit y.vents[v.val].stops ∧
      (stopAt v p y).vents[v.val].retries = 0 := by
    obtain ⟨-, f1, f2, -⟩ := evaluate_same v (toIdle v ((stopDriven v (fun _ => some p) y).updVent v fun x =>
      { x with stops := saturate Config.stopLimit x.stops, retries := 0 }))
    rw [stopAt_eq, f1, f2]
    simp [toIdle]
  refine ⟨e2.trans same.2, e1.trans (same.1.trans (saturate_stops _)), fun c hc => ?_⟩
  rw [e3 c (by rw [channels_of_still still]; exact hc), chans]
  exact stopDriven_stoppedAt v _ y c hc

theorem lineDown_tick (h : s.line.state = .ok) : (s.tick dt).lineDown = false := by
  rw [State.lineDown, show (s.tick dt).line.state = .ok from h]; rfl

theorem exec_stopTimeReached {e : Micros} {p : Nat} (hr : s.boot.station = .run) (hs : s.vents[v.val].state.running = true)
    (hx : s.vents[v.val].stopTime = some e) (he : e ≤ s.now + dt) (ht : s.vents[v.val].target = .pos p) :
    exec (.stopTimeReached dt v) s = .next (finish Causes.none (s.tick dt) (stopAt v p (s.tick dt))) ∧
      (s.tick dt).stopDue v = true ∧ reachStop v (s.tick dt) = stopAt v p (s.tick dt) := by
  have e1 : (s.tick dt).stopDue v = true := by
    rw [State.stopDue, inRun_of hr]
    exact Bool.and_eq_true_iff.2 ⟨hs, due_of hx he⟩
  have e2 : reachStop v (s.tick dt) = stopAt v p (s.tick dt) := by
    have k : (s.tick dt).vents[v].target = .pos p := ht
    rw [reachStop, k]
  refine ⟨?_, e1, e2⟩
  rw [exec, execStopTimeReached, plainEvent_taken e1, e2]

theorem exec_runLimitReached (hr : s.boot.station = .run) (hs : s.vents[v.val].state = d.runState)
    (hk : s.vents[v.val].runKind = some .toEnd ∨ s.vents[v.val].runKind = some .anchoring)
    (hl : s.runLimit v d ≤ s.now + dt) :
    exec (.runLimitReached dt v) s = .next (finish Causes.none (s.tick dt) (runTimeout v (s.tick dt))) := by
  rw [exec, execRunLimitReached, plainEvent_taken]
  have e1 : (s.tick dt).vents[v].state.dir = some d := by
    rw [show (s.tick dt).vents[v].state = d.runState from hs]; cases d <;> rfl
  have e2 : ((s.tick dt).vents[v].runKind == some RunKind.toEnd || (s.tick dt).vents[v].runKind == some RunKind.anchoring) = true := by
    rcases hk with k | k
    · rw [show (s.tick dt).vents[v].runKind = some .toEnd from k]; rfl
    · rw [show (s.tick dt).vents[v].runKind = some .anchoring from k]; rfl
  have e3 : (s.tick dt).runLimit v d = s.runLimit v d := by
    unfold State.runLimit State.cfg
    simp only [State.tick, State.withEvent_vents, State.withNow_vents, State.withEvent_image, State.withNow_image]
  have e4 : (s.tick dt).now = s.now + dt := rfl
  simp only [State.limitDue, inRun_of hr, e1, e2, e3, e4, Bool.true_and, decide_eq_true_eq]
  exact hl

end Sys2Proof.Machine
end

section
/-! CERTIFICATES. The ends of a run: its stop time, its limit, and a new target that it meets (O56). -/

open Sys2Proof Sys2Proof.Machine Relation

namespace RunEnds

variable {v : VentId} {d : Dir} {s t x : State} {dt : Micros} {p : Nat}

/-- R45: at the stop time of a run in LINE_OK. -/
theorem at_stop (ht : finish Causes.none (s.tick dt) (stopAt v p (s.tick dt)) = t) (hd : s.DriveLaw) (ok : s.line.state = .ok)
    (hr : s.vents[v.val].state.running = true) (due : (s.tick dt).stopDue v = true)
    (e : reachStop v (s.tick dt) = stopAt v p (s.tick dt)) :
    t.vents[v.val].retries = 0 ∧
      t.vents[v.val].stops = (if s.vents[v.val].stops < 8 then s.vents[v.val].stops + 1 else s.vents[v.val].stops) ∧
      StoppedAt v (fun _ => some p) s t := by
  have hd' : (stopAt v p (s.tick dt)).DriveLaw := by
    rw [← e]; exact Path.obeys (reachStop_path (lawful := True) due fun _ => hd) (fun _ => hd) trivial
  have still : (stopAt v p (s.tick dt)).still = (s.tick dt).still := by rw [stopAt_eq]; simp [toIdle]
  have w := finish_turns_of (v := v) still hd' (fun w hw => ?_) ⟨fun k => ?_, fun k => ?_⟩ (by rw [stopAt_held]; rfl)
  · rw [ht, lineDown_tick ok] at w
    exact stopAt_ends (y := s.tick dt) w
  · rw [stopAt_eq, evaluate_other hw, toIdle, updVent_other _ hw, updVent_other _ hw, stopDriven_vents]; rfl
  · rw [stopAt_eq] at k
    rcases (evaluate_same v _).1 with e | e | e <;> rw [e] at k <;> cases k
  · rw [k] at hr; cases hr

/-- R52: at the limit of a run. -/
theorem at_limit (hd : s.DriveLaw) (hs : s.vents[v.val].state = d.runState)
    (ht : finish Causes.none (s.tick dt) (runTimeout v (s.tick dt)) = t) :
    t.vents[v.val].state = .locked ∧ t.vents[v.val].fault = .runTimeout ∧ StoppedAt v (fun _ => none) s t := by
  have hr : s.vents[v.val].state.running = true := by rw [hs]; exact running_runState d
  have m : Moves .verdict True v (s.tick dt) (runTimeout v (s.tick dt)) := .single (.timeout _ rfl fun _ => hr)
  obtain ⟨⟨h1, ⟨h2, -, -⟩, h5⟩, -⟩ := locks_and_stays hd m (by simp [runTimeout, toLocked])
  rw [ht] at h1 h2 h5
  refine ⟨h1, h2.trans (by simp [runTimeout, toLocked]), fun c hc => ?_⟩
  rw [h5 c (by rw [channels_of_still m.still]; exact hc)]
  exact stopDriven_stoppedAt v _ (s.tick dt) c hc

/-! ### An OVERRIDE (R54 to R56) -/

/-- R25, R26: the OVERRIDE that brings the target `x`. -/
theorem override_taken {i : Instr} {q : Nat} {sc : Scope} {x : Target}
    (hi : i = .overrideOpen dt q sc ∧ x = .pos 1000 ∨ i = .overrideClose dt q sc ∧ x = .pos 0 ∨
      i = .overrideHold dt q sc ∧ x = .hold) (hr : s.boot.station = .run) :
    ∃ a : Action, a.target = some x ∧
      exec i s = .next (finish Causes.none (s.tick dt) (applyOverride a sc (hear q (s.tick dt)))) := by
  rcases hi with ⟨rfl, rfl⟩ | ⟨rfl, rfl⟩ | ⟨rfl, rfl⟩
  · exact ⟨.open, rfl, receive_taken hr q _⟩
  · exact ⟨.close, rfl, receive_taken hr q _⟩
  · exact ⟨.hold, rfl, receive_taken hr q _⟩

/-- The OVERRIDE writes the BRIGADE record of a running vent that it names. -/
theorem override_written (a : Action) {q : Nat} {sc : Scope} {x : Target} (hx : a.target = some x) (hd : s.DriveLaw)
    (hu : s.used v = true) (hs : s.vents[v.val].state = d.runState)
    (hn : sc = .all ∨ sc = .zone (s.cfg v).home ∨ sc = .station s.image.node ∨ sc = .vent s.image.node v.val) {y : State}
    (hy : applyOverride a sc (hear q (s.tick dt)) = y) :
    y.DriveLaw ∧ Written (hear q (s.tick dt)) y ∧ y.vents[v.val] = s.vents[v.val] ∧ y.demand[v.val].brigade.isSome = true ∧
      y.effective v = (x, .brigade) := by
  have named : scopeNames (hear q (s.tick dt)) sc v = true := by
    show scopeNames s sc v = true
    rcases hn with rfl | rfl | rfl | rfl <;> simp [scopeNames]
  obtain ⟨h1, h2, h3⟩ := applyOverride_own (s := hear q (s.tick dt)) a hu
    (by rw [show (hear q (s.tick dt)).vents[v.val].state = d.runState from hs]; cases d <;> nofun) named
  have hd' := Path.obeys (applyOverride_path (lawful := True) (s := hear q (s.tick dt)) a sc fun _ => hd) (fun _ => hd) trivial
  rw [hy] at h1 h2 h3 hd'
  rw [hx] at h3
  exact ⟨hd', h1, h2, by rw [h3]; rfl, effective_brigade h3⟩

/-- R54 to R56: what a running vent makes of the target of an OVERRIDE. -/
theorem override_met (a : Action) {q : Nat} {sc : Scope} {x : Target} (hx : a.target = some x) (hd : s.DriveLaw)
    (hr : s.boot.station = .run) (ha : s.ArbiterLaw) (hu : s.used v = true) (hs : s.vents[v.val].state = d.runState)
    (hv : s.vents[v.val].target ≠ x)
    (hn : sc = .all ∨ sc = .zone (s.cfg v).home ∨ sc = .station s.image.node ∨ sc = .vent s.image.node v.val)
    (ht : finish Causes.none (s.tick dt) (applyOverride a sc (hear q (s.tick dt))) = t) :
    ∃ u down, Keeps v (s.tick dt) u ∧ u.effective v = (x, .brigade) ∧
      Turns (fun _ => False) down v (meetTarget v d x (noted v u)) t ∧ t.vents[v.val].target = x := by
  generalize hy : applyOverride a sc (hear q (s.tick dt)) = y at ht
  obtain ⟨h1, h2, h3, h4, h5⟩ := override_written a hx hd hu hs hn hy
  obtain ⟨u, k1, k2, k3, k4⟩ := written_meets ht h1 h2 hr ha hu hs h3 (by rw [h5]; exact hv) (.inl h4)
  rw [h5] at k2 k3 k4
  exact ⟨u, _, k1, k2, k3, k4⟩

/-! ### A COMFORT target inside the travel (R55, R56) -/

/-- R16, R35: a used vent without a FIRE record is outside fire mode. -/
theorem fireMode_of_none (ha : s.ArbiterLaw) (hu : s.used v = true) (hf : s.demand[v.val].fire = none) : s.fireMode = false := by
  have h := (ha.2.2 v).1
  rw [State.firePatternHolds, Fin.getElem_fin, hf, State.patternRecord, hu, Bool.and_true] at h
  by_contra k
  rw [if_pos (by simpa using k)] at h
  cases h

/-- R22, R31: the COMFORT frame writes the record that rules a running vent with none above it. -/
theorem comfort_written {q hold : Nat} {zones : ZoneSet} (hd : s.DriveLaw) (hu : s.used v = true)
    (hb : s.mains.battery = false) (hc : (s.cfg v).comfort = true) (hz : memberOf (s.cfg v).home zones = true) (h1 : p < 1000)
    (r1 : s.demand[v.val].brigade = none) (r2 : s.demand[v.val].fire = none) (r3 : s.demand[v.val].weather = none)
    (r4 : s.demand[v.val].manual = none) {y : State} (hy : applyComfort zones p hold (hear q (s.tick dt)) = y) :
    y.DriveLaw ∧ Written (hear q (s.tick dt)) y ∧ y.vents[v.val] = s.vents[v.val] ∧ y.effective v = (.pos p, .comfort) := by
  obtain ⟨h1, h2, r, h3, h4⟩ := applyComfort_own (s := hear q (s.tick dt)) p hold hu hb hc hz
  have hd' := Path.obeys (applyComfort_path (lawful := True) (s := hear q (s.tick dt)) zones p hold fun _ => hd) (fun _ => hd)
    trivial
  rw [hy] at h1 h2 h4 hd'
  refine ⟨hd', h1, h2, ?_⟩
  have e : y.demand[v.val] = { s.demand[v.val] with comfort := some r } := h4
  have c : clamp 0 1000 p = p := by unfold clamp; split_ifs <;> omega
  simp only [State.effective, Fin.getElem_fin, e, Records.effective, Records.top, r1, r2, r3, r4, h3, c]

theorem comfort_met {q hold : Nat} {zones : ZoneSet} (hd : s.DriveLaw) (hr : s.boot.station = .run) (ha : s.ArbiterLaw)
    (hu : s.used v = true) (hs : s.vents[v.val].state = d.runState) (hv : s.vents[v.val].target ≠ .pos p)
    (hb : s.mains.battery = false) (hc : (s.cfg v).comfort = true) (hz : memberOf (s.cfg v).home zones = true) (h1 : p < 1000)
    (r1 : s.demand[v.val].brigade = none) (r2 : s.demand[v.val].fire = none) (r3 : s.demand[v.val].weather = none)
    (r4 : s.demand[v.val].manual = none)
    (ht : finish Causes.none (s.tick dt) (applyComfort zones p hold (hear q (s.tick dt))) = t) :
    ∃ u, ∃ down, Keeps v (s.tick dt) u ∧ (s.line.state = .ok → down = false) ∧ u.effective v = (.pos p, .comfort) ∧
      Turns (fun _ => False) down v (meetTarget v d (.pos p) (noted v u)) t ∧ t.vents[v.val].target = .pos p := by
  generalize hy : applyComfort zones p hold (hear q (s.tick dt)) = y at ht
  obtain ⟨h1, h2, h3, h5⟩ := comfort_written hd hu hb hc hz h1 r1 r2 r3 r4 hy
  have mode : y.fireMode = false := by
    rw [State.fireMode, h2.fire]; exact fireMode_of_none ha hu r2
  have line : s.line.state = .ok → y.lineDown = false := fun k => by
    have e : ((s.tick dt).line.hear q).state = .ok := by
      have k : (s.tick dt).line.state = .ok := k
      unfold Line.hear
      split
      · rfl
      · exact k
    rw [State.lineDown, h2.line, show (hear q (s.tick dt)).line.state = .ok from e]; rfl
  obtain ⟨u, k1, k2, k3, k4⟩ := written_meets ht h1 h2 hr ha hu hs h3 (by rw [h5]; exact hv) (.inr mode)
  rw [h5] at k2 k3 k4
  exact ⟨u, _, k1, line, k2, k3, k4⟩

/-! ### What the target makes of the run (R54 to R56) -/

variable {u : State} {down : Bool} {k : DemandClass}

/-- R55: the target is the end the vent moves to. -/
theorem met_ahead (h : Keeps v (s.tick dt) u) (hs : s.vents[v.val].state = d.runState) (he : u.effective v = (.pos d.endPos, k))
    (w : Turns (fun _ => False) down v (meetTarget v d (.pos d.endPos) (noted v u)) t) :
    s.goesOnIn t v .toEnd ∧ t.vents[v.val].stopTime = none ∧ t.vents[v.val].stops = s.vents[v.val].stops ∧
      t.vents[v.val].retries = s.vents[v.val].retries := by
  rw [meetTarget_ahead, noted, updVent_updVent, he] at w
  obtain ⟨g, e⟩ := goes_on h w hs (fun _ => ⟨rfl, rfl, rfl⟩) rfl
  refine ⟨g, ?_⟩
  rw [e]; exact ⟨rfl, rfl, rfl⟩

/-- R56: the target is the other end. -/
theorem met_behind (h : Keeps v (s.tick dt) u)
    (w : Turns (fun _ => False) down v
      (meetTarget v d (.pos d.other.endPos) (noted v u)) t) :
    s.dwellsIn t dt v ∧ t.vents[v.val].stops = s.stopCounted v ∧ t.vents[v.val].retries = s.vents[v.val].retries := by
  rw [meetTarget_behind] at w
  exact dwells_in h w

/-- R38, R39: whether re-anchoring is due below FIRE class. -/
theorem reanchor_noted (h : Keeps v (s.tick dt) u) (hu : s.used v = true) (he : (u.effective v).2 = .comfort) :
    (noted v u).reanchorDue v = true ↔ (∃ c ∈ s.channels v, s.reached dt v c = none) ∨
      (∃ c ∈ s.channels v, ∃ e ∈ s.channels v, s.reached dt v c ≠ s.reached dt v e) ∨ s.vents[v.val].stops = 8 := by
  have used : (noted v u).used v = true := by
    rw [noted_used, State.used, State.cfg, h.image]; exact hu
  have pos : ∀ c ∈ s.channels v, (noted v u).chanPos v c = s.reached dt v c := fun c hc => by
    rw [noted_chanPos, h.chanPos hc, chanPos_tick]
  have chans : (noted v u).channels v = s.channels v := h.channels v
  have items : (noted v u).vents[v.val].stops = s.vents[v.val].stops ∧ classRank (noted v u).vents[v.val].cls < 4 := by
    rw [noted_same, h.vent, he]; exact ⟨rfl, show classRank .comfort < 4 by decide⟩
  rw [reanchorDue_iff used, chans]
  refine or_congr (exists_congr fun c => and_congr_right fun hc => by rw [pos c hc]) (or_congr ?_ ?_)
  · exact exists_congr fun c => and_congr_right fun hc => exists_congr fun e => and_congr_right fun he => by
      rw [pos c hc, pos e he]
  · rw [items.1]; exact and_iff_left items.2

/-- R55, R56: a target between the ends, for an anchoring run and for a run to an end with re-anchoring due. -/
theorem met_anchoring (h : Keeps v (s.tick dt) u) (hu : s.used v = true) (hs : s.vents[v.val].state = d.runState) (h0 : 0 < p)
    (h1 : p < 1000) (he : u.effective v = (.pos p, .comfort))
    (ha : s.vents[v.val].runKind = some .anchoring ∨ s.vents[v.val].runKind = some .toEnd ∧
      ((∃ c ∈ s.channels v, s.reached dt v c = none) ∨
        (∃ c ∈ s.channels v, ∃ e ∈ s.channels v, s.reached dt v c ≠ s.reached dt v e) ∨ s.vents[v.val].stops = 8))
    (w : Turns (fun _ => False) down v (meetTarget v d (.pos p) (noted v u)) t) :
    s.goesOnIn t v .anchoring ∧ t.vents[v.val].stops = s.vents[v.val].stops := by
  rw [← reanchor_noted h hu (by rw [he])] at ha
  have kind : (noted v u).vents[v.val].runKind = s.vents[v.val].runKind := by rw [noted_same, h.vent]; rfl
  rw [← kind] at ha
  rw [meetTarget_between h0 h1, meetIntermediate_anchors ha, noted, updVent_updVent] at w
  obtain ⟨g, e⟩ := goes_on h w hs (fun _ => ⟨rfl, rfl, rfl⟩) rfl
  exact ⟨g, by rw [e]; rfl⟩

/-- R45, R55, R56: a target between the ends, for another run whose vent has a position. -/
theorem met_between (h : Keeps v (s.tick dt) u) (hl : s.line.state = .ok → down = false) (hu : s.used v = true)
    (hs : s.vents[v.val].state = d.runState) (h0 : 0 < p) (h1 : p < 1000) (he : u.effective v = (.pos p, .comfort))
    (hn : ¬ (s.vents[v.val].runKind = some .anchoring ∨ s.vents[v.val].runKind = some .toEnd ∧
      ((∃ c ∈ s.channels v, s.reached dt v c = none) ∨
        (∃ c ∈ s.channels v, ∃ e ∈ s.channels v, s.reached dt v c ≠ s.reached dt v e) ∨ s.vents[v.val].stops = 8)))
    (w : Turns (fun _ => False) down v (meetTarget v d (.pos p) (noted v u)) t) {x : Nat} (hx : (s.tick dt).ventPos v = some x) :
    (x = p → s.line.state = .ok → t.vents[v.val].retries = 0 ∧ t.vents[v.val].stops = s.stopCounted v ∧
        StoppedAt v (fun _ => some p) s t) ∧
      ((match d with | .opening => x < p | .closing => p < x) →
        s.goesOnIn t v .toStop ∧ t.vents[v.val].stops = s.vents[v.val].stops ∧
        ∀ p0, (∀ c ∈ s.channels v, s.chans[c.val].driven = some d ∧ s.chans[c.val].startPos = some p0) →
          t.vents[v.val].stopTime = some (stopTimeOf (s.cfg v) d s.vents[v.val].runStart p0 p)) ∧
      ((match d with | .opening => p < x | .closing => x < p) →
        s.dwellsIn t dt v ∧ t.vents[v.val].stops = s.stopCounted v ∧ t.vents[v.val].retries = s.vents[v.val].retries) := by
  rw [← reanchor_noted h hu (by rw [he])] at hn
  have same : (noted v u).vents[v.val] = s.vents[v.val].aimed (.pos p) .comfort := by rw [noted_same, h.vent, he]; rfl
  have chans : ∀ c ∈ s.channels v, (noted v u).chans[c.val] = s.chans[c.val] := fun c hc => h.chans c hc
  rw [meetTarget_between h0 h1, meetIntermediate_retargets (by rw [same]; exact hn)] at w
  have pos : (noted v u).ventPos v = some x := by rw [noted_ventPos, h.sameView.ventPos, hx]
  obtain ⟨c1, c2, c3⟩ := retarget_some (d := d) (p := p) pos
  refine ⟨fun e ok => ?_, fun e => ?_, fun e => ?_⟩
  · rw [c1 e, hl ok] at w
    obtain ⟨f1, f2, f3⟩ := stopAt_ends w
    rw [same] at f2
    refine ⟨f1, f2, fun c hc => ?_⟩
    have := f3 c (by rw [noted_channels, h.channels]; exact hc)
    rw [chans c hc] at this
    exact this
  · rw [c2 e, noted, updVent_updVent] at w
    obtain ⟨g, e'⟩ := goes_on h w hs (fun _ => ⟨rfl, rfl, rfl⟩) rfl
    refine ⟨g, by rw [e']; rfl, fun p0 hp => ?_⟩
    have start : (noted v u).runStartPos v = some p0 := runStartPos_common (d := d)
      (by rw [noted_used, State.used, State.cfg, h.image]; exact hu) fun c hc => by
        rw [noted_channels, h.channels] at hc; rw [chans c hc]; exact hp c hc
    rw [e']
    show (noted v u).runStop v d .toStop (noted v u).vents[v.val].runStart ((noted v u).runStartPos v) = _
    have cfg : (noted v u).cfg v = s.cfg v := by rw [State.cfg, show (noted v u).image = s.image from h.image]; rfl
    rw [start, runStop_toStop (by rw [same]; rfl), cfg, same]; rfl
  · rw [c3 e] at w
    exact dwells_in h w

/-- R54 to R56, R83: what the target of an OVERRIDE makes of the run. -/
theorem override_outcome {x : Target} (h : Keeps v (s.tick dt) u) (hs : s.vents[v.val].state = d.runState)
    (he : u.effective v = (x, k)) (w : Turns (fun _ => False) down v (meetTarget v d x (noted v u)) t)
    (ht : t.vents[v.val].target = x) (hx : x = .hold ∨ x = .pos d.endPos ∨
      x = .pos d.other.endPos) :
    t.vents[v.val].target = x ∧ t.vents[v.val].retries = s.vents[v.val].retries ∧
      (x = .hold → t.vents[v.val].state = .idle ∧ s.stoppedIn t dt v ∧
        (∀ old, s.vents[v.val].runStart = s.now + dt → s.vents[v.val].committed = some old →
          t.vents[v.val].lastDir = old ∧ t.vents[v.val].stops = s.vents[v.val].stops) ∧
        (s.vents[v.val].runStart ≠ s.now + dt ∨ s.vents[v.val].committed = none →
          t.vents[v.val].lastDir = s.vents[v.val].lastDir ∧ t.vents[v.val].stops = s.stopCounted v)) ∧
      (x = .pos d.endPos →
        s.goesOnIn t v .toEnd ∧ t.vents[v.val].stopTime = none ∧ t.vents[v.val].stops = s.vents[v.val].stops) ∧
      (x = .pos d.other.endPos →
        s.dwellsIn t dt v ∧ t.vents[v.val].stops = s.stopCounted v) := by
  refine ⟨ht, ?_⟩
  rcases hx with rfl | rfl | rfl
  · obtain ⟨e1, e2, e3, e4, e5⟩ := holds_in h (by rw [he]) w
    exact ⟨e3, fun _ => ⟨e1, e2, e4, e5⟩, fun k => Target.noConfusion k, fun k => Target.noConfusion k⟩
  · obtain ⟨e1, e2, e3, e4⟩ := met_ahead h hs he w
    exact ⟨e4, nofun, fun _ => ⟨e1, e2, e3⟩, fun k => absurd k (by cases d <;> decide)⟩
  · obtain ⟨e1, e2, e3⟩ := met_behind h w
    exact ⟨e3, nofun, fun k => absurd k (by cases d <;> decide), fun _ => ⟨e1, e2⟩⟩

end RunEnds

/-- Settles O56: the vent is handed its new target once (`written_meets`), the moves it then makes are those of R54 to R56, and
no other demand reaches it in the event. -/
theorem runEnds : Obligations.RunEnds := by
  intro dt v s hs hr
  refine ⟨fun p e ok hv hx he ht => ?_, fun d hv hk hl => ?_, fun d i x ha hu hv ht hi => ?_,
    fun d q zones p hold ha hu hv hb hc hz h0 h1 ht r1 r2 r3 r4 => ?_⟩
  · have run : s.vents[v.val].state.running = true := by
      rcases hv with k | k <;> rw [Fin.getElem_fin] at k <;> rw [k] <;> rfl
    obtain ⟨e1, e2, e3⟩ := exec_stopTimeReached (dt := dt) hr run hx he ht
    exact ⟨_, e1, RunEnds.at_stop rfl hs ok run e2 e3⟩
  · refine ⟨_, exec_runLimitReached (d := d) hr hv hk ?_, RunEnds.at_limit hs hv rfl⟩
    cases d <;> exact hl
  · obtain ⟨q, sc, hn, hi⟩ := hi
    obtain ⟨a, hx, e⟩ := RunEnds.override_taken hi hr
    refine ⟨_, e, ?_⟩
    generalize ht' : finish Causes.none (s.tick dt) (applyOverride a sc (hear q (s.tick dt))) = t
    obtain ⟨u, down, k, eff, w, tar⟩ := RunEnds.override_met a hx hs hr ha hu hv ht hn ht'
    have out := RunEnds.override_outcome k hv eff w tar (by
      rcases hi with ⟨-, h⟩ | ⟨-, h⟩ | ⟨-, h⟩ <;> cases d <;> simp [h, Dir.other, Dir.endPos])
    cases d <;> exact out
  · refine ⟨_, receive_taken hr q _, ?_⟩
    generalize ht' : finish Causes.none (s.tick dt) (applyComfort zones p hold (hear q (s.tick dt))) = t
    obtain ⟨u, down, k, line, eff, w, tar⟩ := RunEnds.comfort_met hs hr ha hu hv ht hb hc hz h1 r1 r2 r3 r4 ht'
    refine ⟨tar, fun h => RunEnds.met_anchoring k hu hv h0 h1 eff h w, fun h _ x hx => ?_⟩
    obtain ⟨c1, c2, c3⟩ := RunEnds.met_between k line hu hv h0 h1 eff h w hx
    refine ⟨c1, fun hd => ?_, c3⟩
    obtain ⟨e1, e2, e3⟩ := c2 hd
    refine ⟨e1, e2, fun p0 hp => (e3 p0 hp).trans ?_⟩
    cases d <;> rfl
end

section
/-! SUPPORT. A channel that an event anchors keeps its end to the end of the event (R43 to R46). -/

namespace Sys2Proof.Machine

open Relation

variable {v : VentId} {c : ChanId} {d : Dir} {s t before : State} {down : Bool} {E : Nat}

/-! ### A channel at E -/

/-- R43, R44: the channel stands at E, or a run that began at this moment drives it from there. -/
structure StandsAt (v : VentId) (c : ChanId) (E : Nat) (s : State) : Prop where
  mem : c ∈ s.channels v
  here : s.chans[c.val].estimate = some E
  start : ∀ d, s.chans[c.val].driven = some d → s.chans[c.val].startPos = some E ∧ s.vents[v.val].runStart = s.now

theorem dir_of_running {x : VentState} (h : x.running = true) : ∃ d : Dir, x = d.runState := by
  cases x
  case runOpen => exact ⟨.opening, rfl⟩
  case runClose => exact ⟨.closing, rfl⟩
  all_goals cases h

theorem travelled_zero (k : VentCfg) (d : Dir) (h : E ≤ 1000) : travelled k d E 0 = E := by
  cases d <;> simp [travelled, h]

namespace StandsAt

/-- R44: a run that has just begun has not moved the channel. -/
theorem chanPos (h : StandsAt v c E s) (hE : E ≤ 1000) : s.chanPos v c = some E := by
  unfold State.chanPos
  simp only [Fin.getElem_fin]
  split
  · exact h.here
  · next d hd =>
    obtain ⟨h1, h2⟩ := h.start d hd
    rw [h1, h2, Nat.sub_self, Option.map_some, travelled_zero _ d hE]

/-- The channel does not move while its vent does not run. -/
theorem rests (h : StandsAt v c E s) (hd : s.DriveLaw) (hr : s.vents[v.val].state.running = false) (k : Rests v s t) :
    StandsAt v c E t := by
  have e := k.chans c h.mem
  refine ⟨by rw [State.channels, State.cfg, k.image]; exact h.mem, by rw [e]; exact h.here, fun d hd' => ?_⟩
  rw [e, hd.undriven hr c h.mem] at hd'; cases hd'

theorem stopped (h : StandsAt v c E s) (hE : E ≤ 1000) (hi : t.image = s.image)
    (hc : t.chans = (stopInPlace v (noted v s)).chans) : StandsAt v c E t := by
  have e := (stopDriven_stoppedAt v _ (noted v s)).here (e := c) h.mem
  refine ⟨by rw [State.channels, State.cfg, hi]; exact h.mem, ?_, fun d hd => ?_⟩
  · rw [hc]; exact e.2.trans ((noted_chanPos v s c).trans (h.chanPos hE))
  · rw [hc, show (stopInPlace v (noted v s)).chans[c.val].driven = none from e.1] at hd; cases hd

/-- R55, R56: a running vent that is handed a target at an end of the travel goes on, or stops where it is. -/
theorem handed (h : StandsAt v c E s) (hE : E ≤ 1000) (hd : s.DriveLaw) {p : Nat} (he : (s.effective v).1 = .pos p)
    (hp : p = 0 ∨ p = 1000) : StandsAt v c E (handOnVent v s) := by
  by_cases hr : s.vents[v.val].state.running = true
  swap
  · have hr : s.vents[v.val].state.running = false := by simpa using hr
    exact h.rests hd hr ((handOnVent_moves fun _ => hd).rests hr)
  obtain ⟨d, hs⟩ := dir_of_running hr
  rcases handOnVent_running_cases hs with e | ⟨-, e⟩ <;> rw [e]
  · exact ⟨h.mem, h.here, fun d k => by rw [noted_same]; exact h.start d k⟩
  · rw [he]
    have ends : p = d.endPos ∨ p = d.other.endPos := by cases d <;> rcases hp with rfl | rfl <;> simp [Dir.endPos, Dir.other]
    rcases ends with rfl | rfl
    · rw [meetTarget_ahead, noted, updVent_updVent]
      exact ⟨h.mem, h.here, fun d k => by rw [updVent_same]; exact h.start d k⟩
    · rw [meetTarget_behind]
      exact h.stopped hE (image_of_still (stopInPlace_still v (noted v s))) rfl

theorem turn (h : StandsAt v c E s) (hE : E ≤ 1000) (m : Turn (FireCall before v) down v s t) : StandsAt v c E t := by
  cases m with
  | keeps k =>
    have e := k.chans c h.mem
    refine ⟨by rw [k.channels]; exact h.mem, by rw [e]; exact h.here, fun d hd => ?_⟩
    rw [e] at hd ⊢
    rw [k.vent, k.now]; exact h.start d hd
  | hand hd k =>
    obtain ⟨p, e, hp⟩ := k.target
    exact h.handed hE hd (by rw [e]) hp
  | given hd hw _ _ =>
    have still : ∀ u : State, u.image = s.image → u.chans = s.chans → StandsAt v c E u := fun u hi hc => by
      refine ⟨by rw [State.channels, State.cfg, hi]; exact h.mem, by rw [hc]; exact h.here, fun d k => ?_⟩
      rw [hc, hd.undriven (by rw [hw]; rfl) c h.mem] at k; cases k
    rcases giveStart_cases v s with ⟨-, e⟩ | ⟨d, k, -, ⟨-, e⟩ | ⟨-, e⟩⟩ <;> rw [e]
    · exact still _ rfl rfl
    · rw [beginRun_begun]
      have i := begunRun_still v d k none (endStart s)
      have g : (begunRun v d k none (endStart s)).chans[c.val] = s.chans[c.val].begun d s.now s.image.inrushMs := by
        rw [begunRun_get, if_pos (show c ∈ (endStart s).channels v from h.mem)]; rfl
      refine ⟨by rw [channels_of_still i]; exact h.mem, by rw [g]; exact h.here, fun _ _ => ⟨by rw [g]; exact h.here, ?_⟩⟩
      rw [begunRun_same, now_of_still i]
    · exact still _ rfl rfl
  | announced hd hw _ =>
    exact ⟨h.mem, h.here, fun d k => by rw [announce_same]; exact h.start d k⟩
  | back hd ha =>
    have hr : s.vents[v.val].state.running = false := by rw [ha]; rfl
    exact h.rests hd hr ((returnStart_moves fun _ => ha).rests hr)

theorem turns (h : StandsAt v c E s) (hE : E ≤ 1000) (m : Turns (FireCall before v) down v s t) : StandsAt v c E t := by
  induction m with
  | refl => exact h
  | tail _ m ih => exact ih.turn hE m

end StandsAt

/-- R48: a start window that closes without current anchors a channel whose run started at an UNKNOWN position. -/
theorem endWindow_anchors (hn : s.chans[c.val].drew = false) (hp : s.chans[c.val].startPos = none) :
    endWindow v c d s = anchor v c d s := by
  rw [endWindow_verdict hn, hp]; rfl

/-- R46: an anchored channel stands at the end its run went to when the event is over. -/
theorem anchor_stands {dt : Micros} (h : Drives s v c d) (ht : finish Causes.none (s.tick dt) (anchor v c d (s.tick dt)) = t) :
    t.chans[c.val].estimate = some d.endPos := by
  have turns := anchor_turns (dt := dt) h
  rw [ht] at turns
  have same := anchor_same v c d (s.tick dt)
  have img : (anchor v c d (s.tick dt)).image = s.image := by
    rcases anchor_cases v c d (s.tick dt) with ⟨-, e⟩ | ⟨-, e⟩ <;> rw [e]
    · rfl
    · exact (image_of_still (evaluate_still v _)).trans rfl
  have st : StandsAt v c d.endPos (anchor v c d (s.tick dt)) :=
    ⟨by rw [State.channels, State.cfg, img]; exact h.mem, by rw [same]; rfl, fun d' k => by rw [same] at k; cases k⟩
  exact (st.turns (by cases d <;> decide) turns).here

end Sys2Proof.Machine
end

section
/-! CERTIFICATES. Estimates latch (O11). -/

open Sys2Proof Sys2Proof.Machine

/-- R43 to R45: every command keeps the run law. -/
theorem exec_runLaw {i : Instr} {s t : State} (h : exec i s = .next t) (hd : s.DriveLaw) (hs : s.RunLaw) : t.RunLaw := by
  rcases exec_path (lawful := True) h fun _ => hd with st | ⟨u, hu, p⟩
  · exact st.runLaw hs
  · rcases hu.move (lawful := True) with rfl | ⟨v, m⟩
    · exact Path.runLaw p hd hs
    · exact Path.runLaw p (m.driveLaw trivial hd) (m.runLaw trivial hd hs)

/-- A start-up command is a chip reset, or is taken in LOADING. -/
theorem not_startsUp {i : Instr} {s t : State} (hi : isReset i = false) (hl : s.boot.station ≠ .loading) :
    ¬ StartsUp i (s.tick (timeOf i)) t := fun st => by
  have loading : (s.tick (timeOf i)).isLoading ≠ true := fun k => hl (isLoading_station k)
  cases st with
  | reset kind x k _ => rw [hi] at k; cases k
  | abandon k => exact loading k
  | fallback k => exact loading k
  | join b k _ => exact loading k

/-- R44, R52: of all that a command can do only a verdict makes a known estimate UNKNOWN or an UNKNOWN one known. -/
theorem estimate_judged {i : Instr} {s t : State} (h : exec i s = .next t) (hd : s.DriveLaw) (hs : s.RunLaw)
    (hi : isReset i = false) (hl : s.boot.station ≠ .loading) (c : ChanId) :
    t.chans[c.val].estimate.isSome = s.chans[c.val].estimate.isSome ∨
      (t.chans[c.val].estimate = none ∧ ∃ dt v, i = .runLimitReached dt v ∧ c ∈ s.channels v) ∨
      t.chans[c.val].estimate.isSome = true ∧ ∃ dt v d, (i = .endFilterExpiry dt c ∨ i = .startWindowEnd dt c) ∧
        c ∈ s.channels v ∧ s.chans[c.val].driven = some d := by
  obtain ⟨u, hu, p⟩ := (exec_path (lawful := True) h fun _ => hd).resolve_left (not_startsUp hi hl)
  have law : u.DriveLaw ∧ u.RunLaw := by
    rcases hu.move (lawful := True) with rfl | ⟨v, m⟩
    · exact ⟨hd, hs⟩
    · exact ⟨m.driveLaw trivial hd, m.runLaw trivial hd hs⟩
  have known : t.chans[c.val].estimate.isSome = u.chans[c.val].estimate.isSome :=
    Path.known p (by simp [Phase.plain]) law.1 law.2 c
  rw [known]
  cases hu with
  | nothing => exact .inl rfl
  | anchored dt e v d k hc hd =>
    rw [updChan_get]
    split
    · next j => subst j; exact .inr (.inr ⟨rfl, dt, v, d, k, hc, hd⟩)
    · exact .inl rfl
  | timeout dt v k _ =>
    have e : (runTimeout v (s.tick (timeOf i))).chans = (stopDriven v (fun _ => none) (s.tick (timeOf i))).chans := rfl
    rw [e, stopDriven_get] at known ⊢
    split_ifs at known ⊢ with h1 h2
    · refine .inr (.inl ⟨?_, dt, v, k, h1⟩)
      rw [← Option.not_isSome_iff_eq_none, known]
      nofun
    · exact .inl rfl
    · exact .inl rfl
  | undwell dt v e _ _ _ _ => exact .inl rfl

/-- R46, R48: an UNKNOWN channel that its end filter or its start window makes known is at an end. -/
theorem anchored_at_end {i : Instr} {s t : State} {c : ChanId} {v : VentId} {d : Dir} {dt : Micros} (h : exec i s = .next t)
    (hd : s.DriveLaw) (hs : s.RunLaw) (hi : i = .endFilterExpiry dt c ∨ i = .startWindowEnd dt c) (hc : c ∈ s.channels v)
    (hv : s.chans[c.val].driven = some d) (hn : s.chans[c.val].estimate = none) {x : Nat}
    (hx : t.chans[c.val].estimate = some x) : x = d.endPos := by
  have run : s.boot.station = .run := by simpa [State.inRun] using hd.inRun hv
  have drives : Drives s v c d := ⟨hd, run, hc, hv⟩
  have anchors : finish Causes.none (s.tick dt) (anchor v c d (s.tick dt)) = t → x = d.endPos := fun e => by
    rw [anchor_stands drives e] at hx
    exact (Option.some.inj hx).symm
  have stands : (s.tick dt).chans[c.val].estimate = some x → x = d.endPos := fun e => by
    rw [show (s.tick dt).chans[c.val].estimate = none from hn] at e; cases e
  rcases hi with rfl | rfl
  · rw [exec, execEndFilterExpiry, plainEvent] at h
    by_cases k : ((s.tick dt).inRun && due (s.tick dt).chans[c].endFilter (s.tick dt).now) = true
    · rw [event_taken dt _ _ _ s k, (drives.tick dt).onDriven] at h
      exact anchors (Host.Outcome.next.inj h)
    · rw [event_notTaken dt _ _ _ s (by simpa using k)] at h
      rw [← Host.Outcome.next.inj h] at hx
      exact stands hx
  · rw [exec, execStartWindowEnd, plainEvent] at h
    by_cases k : ((s.tick dt).inRun && due (s.tick dt).chans[c].window (s.tick dt).now) = true
    swap
    · rw [event_notTaken dt _ _ _ s (by simpa using k)] at h
      rw [← Host.Outcome.next.inj h] at hx
      exact stands hx
    rw [event_taken dt _ _ _ s k, (drives.tick dt).onDriven] at h
    have e := Host.Outcome.next.inj h
    by_cases hw : (s.tick dt).chans[c.val].drew = true
    · rw [endWindow, if_pos (show (s.tick dt).chans[c].drew = true from hw)] at e
      obtain ⟨f, -⟩ := finish_filtered (s := s) (c := c) (dt := dt) (f := fun x =>
        ({ x with window := none }).filters ((s.tick dt).cfg v).stallMilliamps (s.tick dt).now) run ⟨rfl, rfl⟩
      rw [e] at f
      rw [f] at hx
      exact stands hx
    · have hp : (s.tick dt).chans[c.val].startPos = none := (hs.1 c (by rw [Fin.getElem_fin, hv]; rfl)).trans hn
      rw [endWindow_anchors (by simpa using hw) hp] at e
      exact anchors e

/-- Settles O11: the run law is kept by every move, a known estimate and an UNKNOWN one stay so but for a verdict
(`estimate_judged`), and an anchored channel is left at its end (`StandsAt`). -/
theorem estimatesLatch : Obligations.EstimatesLatch := by
  intro i s t hd hs h
  refine ⟨exec_runLaw h hd hs, fun hi hl c => ?_⟩
  rcases estimate_judged h hd hs hi hl c with e | ⟨e, k⟩ | ⟨e, dt, v, d, k, hc, hv⟩
  · refine ⟨fun h1 h2 => ?_, fun x h1 h2 => ?_⟩ <;> rw [Fin.getElem_fin] at h1 h2 <;> rw [h2, h1] at e <;> cases e
  · exact ⟨fun _ _ => k, fun x _ h2 => by rw [Fin.getElem_fin, e] at h2; cases h2⟩
  · refine ⟨fun _ h2 => ?_, fun x h1 h2 => ⟨?_, by rw [Fin.getElem_fin, hv]; rfl, dt, k⟩⟩
    · rw [Fin.getElem_fin] at h2; rw [h2] at e; cases e
    · have := anchored_at_end h hd hs k hc hv h1 h2
      cases d
      · exact .inr this
      · exact .inl this

end

section
/-! SUPPORT. What an event makes of a vent that rests in IDLE when it begins, and the retention memory it leaves (R61, R63). -/

namespace Sys2Proof.Machine

open Relation

variable {P : Phase → Prop} {v : VentId} {s t u before : State} {call : State → Prop} {down : Bool} {i : Instr}

/-! ### A vent at rest before any start is given -/

/-- A part of an event in which no run is judged and no start is announced or given. -/
def Phase.early (ph : Phase) : Prop := ph = .effect ∨ ph = .settle ∨ ph = .records

theorem Phase.acts_early (ph : Phase) (h : ph.acts) : ph.early := .inl h
theorem Phase.passes_early (ph : Phase) (h : ph.passes) : ph.early := h.imp id .inl

/-- The vent neither runs nor is announced, and its channels' estimates stand. -/
structure Idles (v : VentId) (s t : State) : Prop where
  state : t.vents[v.val].state.running = false ∧ t.vents[v.val].state ≠ .announced
  estimates : ∀ c ∈ s.channels v, t.chans[c.val].estimate = s.chans[c.val].estimate

theorem Move.idles {ph : Phase} {w : VentId} (m : Move ph True w s t) (hp : ph.early) (hd : s.DriveLaw)
    (hs : s.vents[v.val].state.running = false ∧ s.vents[v.val].state ≠ .announced) : Idles v s t := by
  have same (h1 : t.vents[v.val].state = s.vents[v.val].state)
      (h2 : ∀ c ∈ s.channels v, t.chans[c.val].estimate = s.chans[c.val].estimate) : Idles v s t := ⟨by rw [h1]; exact hs, h2⟩
  have not_running {Q : Prop} (k : s.vents[v.val].state.running = true) : Q := by rw [hs.1] at k; cases k
  have not_verdict {Q : Prop} (k : ph = .verdict) : Q := by subst k; rcases hp with k | k | k <;> cases k
  have not_serve {Q : Prop} (k : ph = .serve) : Q := by subst k; rcases hp with k | k | k <;> cases k
  by_cases hv : v = w
  swap
  · exact same (by rw [m.others.1 v hv]) fun c hc => by rw [m.others.2 c (hd.1 v w hv c hc)]
  subst hv
  cases m with
  | note f h => exact same (by rw [updVent_same, h.state]) fun _ _ => rfl
  | rest f free h => exact ⟨by rw [updVent_same]; exact h.state, fun _ _ => rfl⟩
  | announce hp _ _ => exact not_serve hp
  | begin d k c h _ =>
    rcases (h.origin trivial).2 with ⟨-, k⟩ | ⟨k, -, -⟩
    · exact absurd k hs.2
    · exact not_serve k
  | clear => exact same rfl fun _ _ => rfl
  | stop p hr _ => exact not_running (hr trivial)
  | withdraw old hr _ _ _ _ _ => exact not_running hr
  | tune c f _ _ h =>
    refine same rfl fun e _ => ?_
    rw [updChan_get]
    split
    · next k => subst k; exact h.1
    · rfl
  | anchored c d hp _ _ => exact not_verdict hp
  | timeout hp _ => exact not_verdict hp
  | undwell hp _ => exact not_verdict hp

theorem Path.idles (h : Path Phase.early True s t) (hd : s.DriveLaw)
    (hs : s.vents[v.val].state.running = false ∧ s.vents[v.val].state ≠ .announced) : Idles v s t := by
  induction h with
  | refl => exact ⟨hs, fun _ _ => rfl⟩
  | @tail y t p m ih =>
    have step : Idles v y t := by
      rcases m with ⟨m, -⟩ | ⟨ph, w, hp, m⟩
      · exact ⟨by rw [m.vents]; exact ih.state, fun c _ => by rw [m.chans]⟩
      · exact m.idles hp (Path.obeys p (fun _ => hd) trivial) ih.state
    exact ⟨step.state, fun c hc => (step.estimates c (by rw [Path.channels p]; exact hc)).trans (ih.estimates c hc)⟩

/-- A verdict is about a vent that runs or dwells: one in IDLE is left alone. -/
theorem Judged.idle (h : Judged i s u) (hd : s.DriveLaw) (hs : s.vents[v.val].state = .idle) :
    u.vents[v.val] = s.vents[v.val] ∧ ∀ c ∈ s.channels v, u.chans[c.val] = s.chans[c.val] := by
  have other (w : VentId) (m : Move .verdict True w s u) (hw : s.vents[w.val].state ≠ .idle) :
      u.vents[v.val] = s.vents[v.val] ∧ ∀ c ∈ s.channels v, u.chans[c.val] = s.chans[c.val] := by
    have hv : v ≠ w := by rintro rfl; exact hw hs
    exact ⟨m.others.1 v hv, fun c hc => m.others.2 c (hd.1 v w hv c hc)⟩
  cases h with
  | nothing => exact ⟨rfl, fun _ _ => rfl⟩
  | anchored dt c w d hi hc hdr => exact other w (.anchored s c d rfl hc hdr) (by rw [hd.runs hc hdr]; cases d <;> nofun)
  | timeout dt w hi hr => exact other w (.timeout s rfl fun _ => hr) (by rintro k; rw [k] at hr; cases hr)
  | undwell dt w e hi hw he hn => exact other w (.undwell s rfl hw) (by rw [hw]; nofun)

/-! ### A vent at rest when starts are given -/

/-- The starts of a completion leave a vent at rest, or it runs. -/
theorem Turn.rests_or_runs (h : Turn call down v s t) (hr : s.vents[v.val].state.running = false) :
    Rests v s t ∨ t.vents[v.val].state.running = true := by
  cases h with
  | keeps h => exact .inl (Turn.rests (call := call) (.keeps h) rfl hr)
  | hand hd h => exact .inl (Turn.rests (.hand s hd h) rfl hr)
  | given hd hw _ _ =>
    rcases giveStart_cases v s with ⟨-, e⟩ | ⟨d, k, -, ⟨-, e⟩ | ⟨-, e⟩⟩ <;> rw [e]
    · exact .inl ⟨by rw [toIdle_state]; rfl, by simp [toIdle], fun _ _ => rfl, rfl⟩
    · exact .inr (by simp only [beginRun_vents, updVent_same]; exact running_runState d)
    · exact .inl ⟨by rw [toDwell_state]; rfl, by simp [toDwell], fun _ _ => rfl, rfl⟩
  | announced hd hw hi => exact .inl (Turn.rests (call := call) (.announced s hd hw hi) rfl hr)
  | back hd ha => exact .inl (Turn.rests (call := call) (.back s hd ha) rfl hr)

/-- R55, R56: a running vent that is handed a target at an end of the travel runs on, or dwells. -/
theorem handOnVent_end {d : Dir} (hs : s.vents[v.val].state = d.runState) {p : Nat} (he : (s.effective v).1 = .pos p)
    (hp : p = 0 ∨ p = 1000) : (∃ f : Vent → Vent, handOnVent v s = s.updVent v f ∧
      ∀ x, (f x).state = x.state ∧ (f x).runStart = x.runStart ∧ (f x).lastDir = x.lastDir) ∨
      handOnVent v s = toDwell v (countStop v (stopInPlace v (noted v s))) := by
  rcases handOnVent_running_cases hs with e | ⟨-, e⟩ <;> rw [e]
  · exact .inl ⟨_, rfl, fun _ => ⟨rfl, rfl, rfl⟩⟩
  · rw [he]
    have ends : p = d.endPos ∨ p = d.other.endPos := by cases d <;> rcases hp with rfl | rfl <;> simp [Dir.endPos, Dir.other]
    rcases ends with rfl | rfl
    · rw [meetTarget_ahead, noted, updVent_updVent]
      exact .inl ⟨_, rfl, fun _ => ⟨rfl, rfl, rfl⟩⟩
    · exact .inr (meetTarget_behind v d _)

/-- A vent that has begun to run runs on or dwells: no call of the event brings it back to IDLE. -/
theorem Turn.stays_away (h : Turn (FireCall before v) down v s t)
    (hr : s.vents[v.val].state.running = true ∨ s.vents[v.val].state = .dwell) :
    t.vents[v.val].state.running = true ∨ t.vents[v.val].state = .dwell := by
  have not_waiting {Q : Prop} {x : VentState} (k : s.vents[v.val].state = x) (hx : x.running = false ∧ x ≠ .dwell) : Q := by
    rw [k, hx.1] at hr
    rcases hr with hr | hr
    · cases hr
    · exact absurd hr hx.2
  cases h with
  | keeps h => rw [h.vent]; exact hr
  | hand hd k =>
    rcases hr with hr | hr
    · obtain ⟨d, hs⟩ := dir_of_running hr
      obtain ⟨p, e, hp⟩ := k.target
      rcases handOnVent_end hs (by rw [e]) hp with ⟨f, e, hf⟩ | e <;> rw [e]
      · rw [updVent_same, (hf _).1]; exact .inl hr
      · exact .inr (toDwell_state v _)
    · rw [handOnVent_noted (.inr hr), updVent_same]; exact .inr hr
  | given _ hw _ _ => exact not_waiting hw ⟨rfl, nofun⟩
  | announced _ hw _ => exact not_waiting hw ⟨rfl, nofun⟩
  | back _ ha => exact not_waiting ha ⟨rfl, nofun⟩

theorem Turns.rests_or_away (h : Turns (FireCall before v) down v s t) (hr : s.vents[v.val].state.running = false) :
    Rests v s t ∨ t.vents[v.val].state.running = true ∨ t.vents[v.val].state = .dwell := by
  induction h with
  | refl => exact .inl (.refl hr)
  | tail _ m ih =>
    rcases ih with ih | ih
    · exact (m.rests_or_runs ih.state).imp ih.trans .inl
    · exact .inr (m.stays_away ih)

/-- R24, R70, R99: from the first recompute of any event on, what the completion makes of one vent. -/
theorem finish_late (c : Causes) (hd : (balanced c before s).DriveLaw) (v : VentId) :
    Turns (FireCall (balanced c before s) v) (balanced c before s).lineDown v (balanced c before s) (finish c before s) :=
  finish_rounds c Stage.lawful ⟨hd, rfl, rfl, id⟩ (fun b k => rebalance_turns b k (.refl _)) Stage.schedule

/-! ### Any event outside start-up -/

/-- An event outside start-up does nothing to the Drive Unit's laws, or it makes its verdict and its effect and is completed. -/
theorem Ended.cases (h : Ended i True s t) (hd : s.DriveLaw) : t.plant = s.plant ∨
    ∃ c x u, finish c s x = t ∧ Judged i s u ∧ Path Phase.early True u x := by
  cases h with
  | quiet h => exact .inl h
  | finished c h =>
    obtain ⟨u, hu, p⟩ := h
    exact .inr ⟨c, _, u, rfl, hu, Path.mono p Phase.acts_early⟩
  | passed c hj => exact .inr ⟨c, _, s, rfl, .nothing, (enterRun_path hj fun _ => hd).mono Phase.passes_early⟩

/-- A vent in IDLE before and after an event has its channels where they were. -/
theorem idle_stays {c : Causes} {x : State} (hj : Judged i s u) (p : Path Phase.early True u x) (hd : s.DriveLaw)
    (ht : finish c s x = t) (hs : s.vents[v.val].state = .idle) (hv : t.vents[v.val].state = .idle) :
    ∀ e ∈ s.channels v, t.chans[e.val].estimate = s.chans[e.val].estimate := by
  obtain ⟨h1, h2⟩ := hj.idle hd hs
  have hu : u.DriveLaw := hj.obeys (fun _ => hd) trivial
  have hx : x.DriveLaw := Path.obeys p (fun _ => hu) trivial
  have q : Path Phase.early True u (balanced c s x) := p.trans (balanced_path c s (.inr (.inl rfl)) (.inr (.inr rfl)) fun _ => hx)
  have hb : (balanced c s x).DriveLaw := Path.obeys q (fun _ => hu) trivial
  have k := q.idles (v := v) hu (by rw [h1, hs]; exact ⟨rfl, nofun⟩)
  have img : u.image = s.image := by
    rcases hj.move (lawful := True) with rfl | ⟨w, m⟩
    · rfl
    · exact image_of_still m.still
  intro e he
  have hue : e ∈ u.channels v := by rw [State.channels, State.cfg, img]; exact he
  have hbe : e ∈ (balanced c s x).channels v := by rw [Path.channels q]; exact hue
  have late := finish_late c hb v
  rw [ht] at late
  rcases late.rests_or_away k.state.1 with r | r | r
  · rw [r.chans e hbe, k.estimates e hue, h2 e he]
  · rw [hv] at r; cases r
  · rw [hv] at r; cases r

/-! ### The retention memory an event leaves (R61) -/

/-- R61: what an entry holds for a vent's state and a channel's estimate. -/
def State.retains (s : State) (v : VentId) (c : ChanId) : Position :=
  if s.vents[v.val].state = .idle then s.chans[c.val].estimate else none

theorem retainChans_get (v : VentId) (e : ChanId) (l : List ChanId) : ∀ u : State,
    (l.foldl (retainChan v) u).retention[e.val] = if e ∈ l then u.retains v e else u.retention[e.val] := by
  induction l with
  | nil => exact fun u => by simp
  | cons c l ih =>
    intro u
    have r : (retainChan v u c).retains v e = u.retains v e := rfl
    have g : (retainChan v u c).retention[e.val] = if e = c then u.retains v c else u.retention[e.val] := by
      simp only [retainChan, State.withRetention_retention, Vector.getElem_set, State.retains, Fin.getElem_fin, Fin.ext_iff,
        eq_comm (a := c.val)]
    rw [List.foldl_cons, ih, r, g]
    by_cases h : e = c
    · subst h; simp
    · simp [h]

/-- R61: the entries of a vent that has changed its state are written. -/
theorem retainVent_get (before u : State) (v : VentId) (e : ChanId) : (retainVent before u v).retention[e.val] =
    if u.vents[v.val].state ≠ before.vents[v.val].state ∧ e ∈ u.channels v then u.retains v e else u.retention[e.val] := by
  unfold retainVent
  by_cases h : u.vents[v.val].state = before.vents[v.val].state
  · rw [if_pos (show u.vents[v].state = before.vents[v].state from h), if_neg fun k => k.1 h]
  · rw [if_neg (show ¬ u.vents[v].state = before.vents[v].state from h), forChannels, retainChans_get]
    simp [h]

theorem retainVent_from (h : RetainsFrom s u) (before : State) (v : VentId) : RetainsFrom s (retainVent before u v) := by
  unfold retainVent
  split
  · exact h
  · exact RetainsFrom.foldl (retainChan v) (fun u c h => h.chan v c) _ u h

/-- R61: the entry of a channel of a vent, once the event's changes are written. -/
theorem writeRetention_get (before : State) (ha : s.image.ChannelsApart) {c : ChanId} (hc : c ∈ s.channels v) :
    (writeRetention before s).retention[c.val] =
      if s.vents[v.val].state ≠ before.vents[v.val].state then s.retains v c else s.retention[c.val] := by
  have same : ∀ {u : State}, RetainsFrom s u → u.vents = s.vents ∧ u.chans = s.chans ∧ ∀ w, u.channels w = s.channels w := fun k => by
    rw [k.rest]; exact ⟨rfl, rfl, fun _ => rfl⟩
  rw [writeRetention_eq]
  refine (forEight_own (v := v) (s := s) (f := retainVent before) (P := RetainsFrom s) (g := fun u _ => u.retention[c.val])
    (h := fun r => if s.vents[v.val].state ≠ before.vents[v.val].state then s.retains v c else r)
    (fun u w k => retainVent_from k before w) (fun u w k hw => ?_) (fun u k => ?_) ⟨rfl, fun _ => .inl rfl⟩).2
  · rw [retainVent_get, if_neg]
    rintro ⟨-, j⟩
    rw [(same k).2.2] at j
    exact ha v w hw c hc j
  · rw [retainVent_get, State.retains, State.retains, (same k).1, (same k).2.1, (same k).2.2]
    simp only [hc, and_true]

theorem writeRetention_unowned (before : State) {c : ChanId} (hc : ∀ v, c ∉ s.channels v) :
    (writeRetention before s).retention[c.val] = s.retention[c.val] := by
  have h := (forEight_own (v := 0) (s := s) (f := retainVent before) (g := fun _ _ => ()) (h := id)
    (P := fun u => RetainsFrom s u ∧ u.retention[c.val] = s.retention[c.val]) (fun u w k => ?_) (fun _ _ _ _ => rfl)
    (fun _ _ => rfl) ⟨⟨rfl, fun _ => .inl rfl⟩, rfl⟩).1.2
  · rwa [writeRetention_eq]
  · refine ⟨retainVent_from k.1 before w, ?_⟩
    rw [retainVent_get, if_neg]
    · exact k.2
    · rintro ⟨-, j⟩
      have : u.channels w = s.channels w := by rw [k.1.rest]; rfl
      exact hc w (this ▸ j)

/-- R61: what an event makes of the retention memory. -/
theorem finish_retention {c : Causes} {x : State} (hx : x.DriveLaw) (hr : x.retention = s.retention)
    (hi : x.image = s.image) (ht : finish c s x = t) :
    (∀ (v : VentId) (e : ChanId), e ∈ s.channels v → t.retention[e.val] =
        if t.vents[v.val].state ≠ s.vents[v.val].state then t.retains v e else s.retention[e.val]) ∧
      ∀ e : ChanId, (∀ v, e ∉ s.channels v) → t.retention[e.val] = s.retention[e.val] := by
  have p := decided_path (lawful := True) c s fun _ => hx
  have hd : (decided c s x).DriveLaw := Path.obeys p (fun _ => hx) trivial
  have keeps : (decided c s x).retention = s.retention := (Path.retention p id).trans hr
  have chans : ∀ w, (decided c s x).channels w = s.channels w := fun w => by
    rw [Path.channels p, State.channels, State.cfg, hi]; rfl
  have w := writeRetention_aside s (decided c s x)
  have out : ∀ u : State, (syncOutputs s u).retention = u.retention := fun u => by unfold syncOutputs; split <;> rfl
  have o := syncOutputs_aside s (writeRetention s (decided c s x))
  rw [finish_eq] at ht
  have vents : t.vents = (decided c s x).vents := by rw [← ht, o.vents, w.vents]
  have cells : t.chans = (decided c s x).chans := by rw [← ht, o.chans, w.chans]
  have ret : t.retention = (writeRetention s (decided c s x)).retention := by rw [← ht, out]
  refine ⟨fun v e he => ?_, fun e he => ?_⟩
  · rw [ret, writeRetention_get s hd.1 (by rw [chans]; exact he), keeps, State.retains, State.retains, vents, cells]
  · rw [ret, writeRetention_unowned s fun v => by rw [chans]; exact he v, keeps]

end Sys2Proof.Machine
end

section
/-! CERTIFICATES. The retention memory is kept at the estimates of the vents in IDLE (O6). -/

open Sys2Proof Sys2Proof.Machine

/-- R62, R63: the retention memory after a start-up command. -/
theorem startUp_retentionLaw {i : Instr} {s t : State} (h : StartsUp i s t) : t.RetentionLaw := by
  have out : ∀ {u : State}, u.boot.station ≠ .join ∧ u.boot.station ≠ .run → u.RetentionLaw := fun {u} hu k => by
    rcases e : u.boot.station with _ | _ | _ | _ | _ <;> rw [State.active, e] at k <;>
      first | exact absurd e hu.1 | exact absurd e hu.2 | cases k
  have untouched : ∀ u, Untouched s u → s.isLoading = true → u.RetentionLaw := fun u hu hl => by
    refine out ?_
    rcases hu.station with e | e <;> rw [e]
    · rw [isLoading_station hl]; exact ⟨nofun, nofun⟩
    · exact ⟨nofun, nofun⟩
  cases h with
  | reset kind x _ hx => exact out hx
  | abandon hl => exact untouched _ (abandonAttempt_untouched s) hl
  | fallback hl => exact untouched _ (enterFallback_untouched s) hl
  | join b hl hb =>
    intro _
    refine ⟨fun v c hc => ?_, fun c hc => ?_⟩ <;> rw [Fin.getElem_fin, enterJoin_retention]
    · rw [Fin.getElem_fin, Fin.getElem_fin, enterJoin_vents, enterJoin_chans]
      exact (if_pos rfl).symm
    · rw [if_neg]
      rw [owner_isSome]
      rintro ⟨v, k⟩
      exact hc v k

/-- R61: a completed event keeps the retention law. -/
theorem finish_retentionLaw {i : Instr} {s t u x : State} {c : Causes} (ht : finish c s x = t) (hj : Judged i s u)
    (p : Path Phase.early True u x) (hd : s.DriveLaw) (hs : s.RetentionLaw) : t.RetentionLaw := by
  have hu : u.DriveLaw := hj.obeys (fun _ => hd) trivial
  have hx : x.DriveLaw := Path.obeys p (fun _ => hu) trivial
  have judged : u.active = s.active ∧ u.retention = s.retention ∧ u.image = s.image := by
    rcases hj.move (lawful := True) with rfl | ⟨w, m⟩
    · exact ⟨rfl, rfl, rfl⟩
    · exact ⟨by rw [State.active, boot_of_still m.still]; rfl, retention_of_still m.still, image_of_still m.still⟩
  have xr : x.retention = s.retention := (Path.retention p (by rintro (k | k | k) <;> cases k)).trans judged.2.1
  have xi : x.image = s.image := (Path.image p).trans judged.2.2
  have q := finish_path (lawful := True) c s fun _ => hx
  rw [ht] at q
  have act : t.active = s.active := (Path.active q).trans ((Path.active p).trans judged.1)
  have chans : ∀ w, t.channels w = s.channels w := fun w => by
    rw [Path.channels q, State.channels, State.cfg, xi]; rfl
  obtain ⟨r1, r2⟩ := finish_retention hx xr xi ht
  intro ha
  obtain ⟨l1, l2⟩ := hs (act ▸ ha)
  refine ⟨fun v e he => ?_, fun e he => ?_⟩
  · rw [chans] at he
    rw [Fin.getElem_fin, r1 v e he]
    split
    · rfl
    · next k =>
      have k : t.vents[v.val].state = s.vents[v.val].state := not_not.1 k
      refine (l1 v e he).trans ?_
      simp only [Fin.getElem_fin, k]
      split
      · next hi => exact (idle_stays hj p hd ht hi (k.trans hi) e he).symm
      · rfl
  · rw [Fin.getElem_fin, r2 e fun v => by rw [← chans]; exact he v]
    exact l2 e fun v => by rw [← chans]; exact he v

/-- R61: every command keeps the retention law. -/
theorem exec_retentionLaw {i : Instr} {s t : State} (h : exec i s = .next t) (hd : s.DriveLaw) (hs : s.RetentionLaw) :
    t.RetentionLaw := by
  have hs : (s.tick (timeOf i)).RetentionLaw := hs
  have hd : (s.tick (timeOf i)).DriveLaw := hd
  rcases exec_ended (lawful := True) h fun _ => hd with st | en
  · exact startUp_retentionLaw st
  generalize s.tick (timeOf i) = s at *
  rcases en.cases hd with e | ⟨c, x, u, ht, hj, p⟩
  · have e1 : t.vents = s.vents := (congrArg State.vents e :)
    have e2 : t.chans = s.chans := (congrArg State.chans e :)
    have e3 : t.retention = s.retention := (congrArg State.retention e :)
    have e4 : t.boot = s.boot := (congrArg State.boot e :)
    have e5 : t.image = s.image := (congrArg State.image e :)
    unfold State.RetentionLaw State.active State.channels State.cfg at *
    rw [e1, e2, e3, e4, e5]
    exact hs
  exact finish_retentionLaw ht hj p hd hs

/-- Settles O6: an event writes the entries of exactly the vents whose state it changes, and a vent in IDLE before and after it has
its channels where they were (`idle_stays`): a run begun in the event goes on or dwells. -/
theorem retentionLawKept : Obligations.RetentionLawKept := fun _ _ hd hs h =>
  (step_keeps (P := fun s => s.DriveLaw ∧ s.RetentionLaw) (fun _ _ k => k)
    (fun _ _ _ h k => ⟨exec_driveLaw h k.1, exec_retentionLaw h k.1 k.2⟩) h ⟨hd, hs⟩).2

end

section
/-! SUPPORT. A recompute that follows another in one event calls no further vent (R99, R101): the first has called vents until its
own take was reached or no eligible one was left, and what the figures are formed from stands. -/

namespace Sys2Proof.Machine

open Relation

variable {v w : VentId} {s t u before : State} {call : State → Prop} {down : Bool} {z : Zone}

/-! ### Where a vent that does not run may rest (R40, R59) -/

/-- Where a vent with the items x comes to rest when it is evaluated: it dwells only where it may have to reverse. -/
def Vent.restsIn (x : Vent) (y : VentState) : Prop := y = .idle ∨ y = .waitSupply ∨ y = .dwell ∧ x.lastDir ≠ none

theorem lastDir_of_forbidden {x : Vent} {d : Dir} (h : x.permits d = false) : x.lastDir ≠ none := by
  intro k
  rw [Vent.permits, k] at h; cases h

theorem evaluate_restsIn (v : VentId) (s : State) : s.vents[v.val].restsIn (evaluate v s).vents[v.val].state := by
  rcases evaluate_cases v s with ⟨-, e⟩ | ⟨d, k, -, ⟨-, e⟩ | ⟨hp, e⟩⟩ <;> rw [e]
  · exact .inl (toIdle_state v s)
  · exact .inr (.inl (by rw [toWait, updVent_same]))
  · exact .inr (.inr ⟨toDwell_state v s, lastDir_of_forbidden hp⟩)

theorem evaluateWaiting_restsIn (v : VentId) (s : State) :
    s.vents[v.val].restsIn (evaluateWaiting v s).vents[v.val].state := by
  unfold evaluateWaiting
  split
  · exact .inl (toIdle_state v s)
  · split
    · exact .inr (.inl (by rw [updVent_same]))
    · next h => exact .inr (.inr ⟨toDwell_state v s, lastDir_of_forbidden (by simpa using h)⟩)

theorem returnStart_restsIn (v : VentId) (s : State) : s.vents[v.val].restsIn (returnStart v s).vents[v.val].state := by
  have h := evaluateWaiting_restsIn v ((endStart s).updVent v fun x => { x with state := .waitSupply })
  rw [updVent_same] at h
  exact h

/-- R40, R59: a vent that does not run and is handed a demand keeps its state, or comes to rest. -/
theorem handOnVent_restsIn (hr : s.vents[v.val].state.running = false) :
    (handOnVent v s).vents[v.val].state = s.vents[v.val].state ∨
      s.vents[v.val].restsIn (handOnVent v s).vents[v.val].state := by
  have hi : (noted v s).vents[v.val].state = s.vents[v.val].state := by rw [noted_same]; rfl
  have hl : (noted v s).vents[v.val].lastDir = s.vents[v.val].lastDir := by rw [noted_same]; rfl
  have rests {y : VentState} (h : (noted v s).vents[v.val].restsIn y) : s.vents[v.val].restsIn y := by
    unfold Vent.restsIn at h ⊢
    rwa [hl] at h
  rw [← hi] at hr ⊢
  change (takeDemand v (s.effective v).1 (s.effective v).2 s).vents[v.val].state = _ ∨
    s.vents[v.val].restsIn (takeDemand v (s.effective v).1 (s.effective v).2 s).vents[v.val].state
  unfold takeDemand
  simp only
  rw [show (s.updVent v fun x => { x with target := (s.effective v).1, cls := (s.effective v).2 }) = noted v s from rfl]
  generalize noted v s = y at *
  split
  · split
    · exact .inr (rests (evaluate_restsIn v y))
    · exact .inr (rests (evaluateWaiting_restsIn v y))
    · split
      · exact .inr (.inl (toIdle_state v y))
      · exact .inl rfl
    · next k => rw [Fin.getElem_fin] at k; rw [k] at hr; cases hr
    · next k => rw [Fin.getElem_fin] at k; rw [k] at hr; cases hr
    · exact .inl rfl
    · exact .inl rfl
    · split
      · exact .inr (.inl (toIdle_state v y))
      · split
        · split
          · exact .inl rfl
          · next h => exact .inr (rests (.inr (.inr ⟨toDwell_state v y, lastDir_of_forbidden (by simpa using h)⟩)))
        · exact .inl rfl
  · exact .inl rfl

/-! ### What the figures of a recompute are formed from (R89, R91, R92) -/

/-- R92: a LOCKED or STALLED vent is not eligible, and its planned term is its position (R89). -/
def VentState.stuck (x : VentState) : Prop := x = .locked ∨ x = .stalled

theorem Vent.restsIn.free {x : Vent} {y : VentState} (h : x.restsIn y) : ¬ VentState.stuck y := by
  rcases h with rfl | rfl | ⟨rfl, -⟩ <;> rintro (k | k) <;> cases k

theorem running_free {x : VentState} (h : x.running = true) : ¬ VentState.stuck x := by
  rintro (rfl | rfl) <;> cases h

theorem plannedTerm_stuck (h : VentState.stuck s.vents[v.val].state) : s.plannedTerm v = s.ventPos v := by
  unfold State.plannedTerm
  rw [Fin.getElem_fin]
  rcases h with h | h <;> rw [h]

theorem plannedTerm_free (h : ¬ VentState.stuck s.vents[v.val].state) :
    (∀ p, s.vents[v.val].target = .pos p → s.plannedTerm v = some p) ∧
      (s.vents[v.val].target = .hold → s.plannedTerm v = s.ventPos v) := by
  unfold State.plannedTerm
  simp only [Fin.getElem_fin]
  constructor
  · intro p hp
    rcases e : s.vents[v.val].state
    case locked => exact absurd (.inl e) h
    case stalled => exact absurd (.inr e) h
    all_goals simp only [hp]
  · intro hp
    rcases e : s.vents[v.val].state
    all_goals simp only [hp]

/-- R89: the planned term of a vent that no recompute reads as stuck, before and after. -/
theorem plannedTerm_congr (hs : ¬ VentState.stuck s.vents[v.val].state) (ht : ¬ VentState.stuck t.vents[v.val].state)
    (hv : t.vents[v.val].target = s.vents[v.val].target) (hp : s.vents[v.val].target = .hold → t.ventPos v = s.ventPos v) :
    t.plannedTerm v = s.plannedTerm v := by
  obtain ⟨s1, s2⟩ := plannedTerm_free hs
  obtain ⟨t1, t2⟩ := plannedTerm_free ht
  rw [hv] at t1 t2
  rcases e : s.vents[v.val].target with p | _
  · rw [s1 p e, t1 p e]
  · rw [s2 e, t2 e, hp e]

theorem waiting_free (h : s.vents[v.val].state = .waitSupply ∨ s.vents[v.val].state = .announced) :
    ¬ VentState.stuck s.vents[v.val].state := by
  rcases h with h | h <;> rw [h] <;> rintro (k | k) <;> cases k

theorem giveStart_free (v : VentId) (s : State) : ¬ VentState.stuck (giveStart v s).vents[v.val].state := by
  rcases giveStart_cases v s with ⟨-, e⟩ | ⟨d, k, -, ⟨-, e⟩ | ⟨-, e⟩⟩ <;> rw [e]
  · rw [toIdle_state]; rintro (k | k) <;> cases k
  · refine running_free ?_
    simp only [beginRun_vents, updVent_same]; exact running_runState d
  · rw [toDwell_state]; rintro (k | k) <;> cases k

/-- R50, R59: no move of a completion takes a vent into LOCKED or STALLED. -/
theorem Move.stuck {ph : Phase} (m : Move ph True w s t) (hp : ph.completes) (ht : VentState.stuck t.vents[v.val].state) :
    t.vents[v.val].state = s.vents[v.val].state := by
  by_cases hv : v = w
  swap
  · rw [m.others.1 v hv]
  subst hv
  have not_stuck {Q : Prop} {x : VentState} (k : t.vents[v.val].state = x) (hx : ¬ VentState.stuck x) : Q := by
    rw [k] at ht; exact absurd ht hx
  cases m with
  | note f h => rw [updVent_same, h.state]
  | rest f free h =>
    rw [updVent_same] at ht
    rcases ht with k | k
    · exact absurd k (h.unstuck hp).1
    · exact absurd k (h.unstuck hp).2
  | announce _ _ _ => exact not_stuck (by rw [announce_same]) (by rintro (k | k) <;> cases k)
  | begin d k c _ _ => exact not_stuck (by rw [begunRun_same]) (running_free (running_runState d))
  | clear => rfl
  | stop p _ _ => rw [stopDriven_vents]
  | withdraw old _ _ _ _ _ _ => exact not_stuck (toIdle_state v _) (by rintro (k | k) <;> cases k)
  | tune c f _ _ _ => rfl
  | anchored c d _ _ _ => rfl
  | timeout k _ => subst k; exact hp.elim
  | undwell k _ => subst k; exact hp.elim

theorem Path.stuck {P : Phase → Prop} (p : Path P True s t) (hp : ∀ ph, P ph → ph.completes)
    (ht : VentState.stuck t.vents[v.val].state) : t.vents[v.val].state = s.vents[v.val].state := by
  induction p with
  | refl => rfl
  | tail _ m ih =>
    rcases m with ⟨m, -⟩ | ⟨ph, w, hph, m⟩
    · rw [m.vents] at ht ⊢; exact ih ht
    · have e := m.stuck (hp ph hph) ht
      rw [e] at ht ⊢; exact ih ht

/-- R92: what a completion makes of a vent whose FIRE record follows the pattern takes it neither into nor out of LOCKED and
STALLED: the calls reach eligible vents only. -/
theorem Turn.stuck (m : Turn (FireCall before v) down v s t) (hp : before.firePatternHolds v) :
    VentState.stuck t.vents[v.val].state ↔ VentState.stuck s.vents[v.val].state := by
  have free (h1 : ¬ VentState.stuck s.vents[v.val].state) (h2 : ¬ VentState.stuck t.vents[v.val].state) :
      VentState.stuck t.vents[v.val].state ↔ VentState.stuck s.vents[v.val].state := ⟨fun k => absurd k h2, fun k => absurd k h1⟩
  cases m with
  | keeps h => rw [h.vent]
  | hand hd h =>
    by_cases hl : s.vents[v.val].state = .locked
    · rw [handOnVent_noted (.inl hl), updVent_same]
    have hs : ¬ VentState.stuck s.vents[v.val].state := by
      rintro (k | k)
      · exact hl k
      · exact (h.called hp).2 k
    refine free hs fun k => hs ?_
    have p : Path Phase.completes True s (handOnVent v s) := (handOnVent_moves fun _ => hd).path trivial
    rwa [← p.stuck (fun _ => id) k]
  | given _ hw _ _ => exact free (waiting_free (.inl hw)) (giveStart_free v s)
  | announced _ hw _ =>
    exact free (waiting_free (.inl hw)) (waiting_free (.inr (by rw [announce_same])))
  | back _ ha => exact free (waiting_free (.inr ha)) (returnStart_restsIn v s).free

theorem Turns.stuck (m : Turns (FireCall before v) down v s t) (hp : before.firePatternHolds v) :
    VentState.stuck t.vents[v.val].state ↔ VentState.stuck s.vents[v.val].state := by
  induction m with
  | refl => exact Iff.rfl
  | tail _ m ih => exact (m.stuck hp).trans ih

theorem evaluateWaiting_view (v : VentId) (s : State) : SameView v s (evaluateWaiting v s) := by
  unfold evaluateWaiting
  split
  · exact .updVent s v _ ⟨rfl, rfl, rfl, rfl⟩
  · split
    · exact .updVent s v _ ⟨rfl, rfl, rfl, rfl⟩
    · exact .updVent s v _ ⟨rfl, rfl, rfl, rfl⟩

/-- R89: with no call the planned term of a vent stands. -/
theorem Turn.planned (m : Turn call down v s t) (hn : ¬ call s) : t.plannedTerm v = s.plannedTerm v := by
  have endStart_view : SameView v s (endStart s) := ⟨rfl, rfl, fun _ _ => rfl, rfl, rfl, rfl, rfl⟩
  cases m with
  | keeps h =>
    by_cases k : VentState.stuck s.vents[v.val].state
    · rw [plannedTerm_stuck k, plannedTerm_stuck (by rw [h.vent]; exact k), h.sameView.ventPos]
    · exact plannedTerm_congr k (by rw [h.vent]; exact k) (by rw [h.vent]) fun _ => h.sameView.ventPos
  | hand _ h => exact absurd h hn
  | given _ hw _ _ =>
    refine plannedTerm_congr (waiting_free (.inl hw)) (giveStart_free v s) (congrArg Prod.fst (giveStart_held v s)) fun k => ?_
    have e : giveStart v s = toIdle v (endStart s) := by
      have : (endStart s).wants v = none := wants_hold (s := endStart s) k
      simp only [giveStart, this]
    rw [e]
    exact (endStart_view.trans (.updVent _ v _ ⟨rfl, rfl, rfl, rfl⟩)).ventPos
  | announced _ hw _ =>
    have view : SameView v s (announce v s) :=
      ⟨rfl, rfl, fun _ _ => rfl, by rw [announce_same]; exact ⟨rfl, rfl, rfl, rfl⟩⟩
    exact plannedTerm_congr (waiting_free (.inl hw)) (waiting_free (.inr (by rw [announce_same]))) view.items.1
      fun _ => view.ventPos
  | back _ ha =>
    have view : SameView v s (returnStart v s) :=
      (endStart_view.trans (.updVent _ v _ ⟨rfl, rfl, rfl, rfl⟩)).trans (evaluateWaiting_view v _)
    exact plannedTerm_congr (waiting_free (.inr ha)) (returnStart_restsIn v s).free view.items.1 fun _ => view.ventPos

theorem Turns.planned (m : Turns call down v s t) (hn : ∀ x, x.image = s.image → ¬ call x) :
    t.plannedTerm v = s.plannedTerm v := by
  have : t.image = s.image ∧ t.plannedTerm v = s.plannedTerm v := by
    induction m with
    | refl => exact ⟨rfl, rfl⟩
    | tail _ m ih => exact ⟨m.image.trans ih.1, (m.planned (hn _ ih.1)).trans ih.2⟩
  exact this.2

/-! ### The calls are complete (R99) -/

theorem sumOver_congr {f g : VentId → Nat} (h : ∀ v, f v = g v) : sumOver f = sumOver g := by
  rw [show f = g from funext h]

theorem sum_step {f g : VentId → Nat} {l : List VentId} (hl : l.Nodup) (hv : v ∈ l) (h : ∀ w, w ≠ v → f w = g w) :
    (l.map f).sum + g v = (l.map g).sum + f v := by
  induction l with
  | nil => cases hv
  | cons w l ih =>
    obtain ⟨hw, hl⟩ := List.nodup_cons.1 hl
    rw [List.map_cons, List.sum_cons, List.map_cons, List.sum_cons]
    by_cases k : w = v
    · subst k
      have : l.map f = l.map g := List.map_congr_left fun x hx => h x fun e => hw (e ▸ hx)
      rw [this]; omega
    · have := ih hl ((List.mem_cons.1 hv).resolve_left fun e => k e.symm)
      rw [h w k]; omega

/-- R99: what a vent adds to the call sum over a set. -/
def State.callTerm (s : State) (z : Zone) (m : VentSet) (v : VentId) : Nat :=
  if s.eligible z v && memberOf v m then (s.cfg v).product 1000 else 0

/-- R99: the call sum over the eligible vents of a set. -/
def State.sumCalled (s : State) (z : Zone) (m : VentSet) : Nat := sumOver (s.callTerm z m)

theorem eight_all (v : VentId) : v ∈ eight := by revert v; decide

theorem sumCalled_only (he : s.eligible z v = true) {m : VentSet} (hm : memberOf v m = false) :
    s.sumCalled z (m ||| only v) = s.sumCalled z m + (s.cfg v).product 1000 := by
  have h : s.sumCalled z m + s.callTerm z (m ||| only v) v = s.sumCalled z (m ||| only v) + s.callTerm z m v :=
    sum_step (by decide) (eight_all v) fun w hw => by
      simp only [State.callTerm, memberOf_or, memberOf_only, decide_eq_false hw, Bool.or_false]
  have hv : memberOf v (m ||| only v) = true := by rw [memberOf_or, memberOf_only, decide_eq_true rfl, Bool.or_true]
  simp only [State.callTerm, hv, he, hm, Bool.and_self, if_true, Bool.and_false, Bool.false_eq_true, if_false, Nat.add_zero] at h
  exact h.symm

theorem insertByRank_perm (s : State) (v : VentId) (l : List VentId) : (s.insertByRank v l).Perm (v :: l) := by
  induction l with
  | nil => exact .refl _
  | cons w l ih =>
    unfold State.insertByRank
    split
    · exact .refl _
    · exact (ih.cons w).trans (.swap v w l)

theorem uncalled_nodup (s : State) (z : Zone) : (s.uncalled z).Nodup := by
  have fold : ∀ l : List VentId, (l.foldr s.insertByRank []).Perm l := by
    intro l
    induction l with
    | nil => exact .refl _
    | cons v l ih => exact (insertByRank_perm s v _).trans (ih.cons v)
  exact (fold _).nodup_iff.2 ((by decide : eight.Nodup).filter _)

/-- R99: the calls stop with the threshold met or every vent of the list called. -/
theorem callUntil_done (th : Nat) (l : List VentId) : ∀ m : VentSet, l.Nodup →
    (∀ v ∈ l, s.eligible z v = true ∧ memberOf v m = false) →
    th ≤ s.sumCalled z (callUntil s th (s.sumCalled z m) m l) ∨
      ∀ v ∈ l, memberOf v (callUntil s th (s.sumCalled z m) m l) = true := by
  induction l with
  | nil => exact fun _ _ _ => .inr fun _ h => absurd h List.not_mem_nil
  | cons w l ih =>
    intro m hl hm
    obtain ⟨hw, hl⟩ := List.nodup_cons.1 hl
    obtain ⟨he, hn⟩ := hm w List.mem_cons_self
    unfold callUntil
    split
    · next h => exact .inl h
    · rw [← sumCalled_only he hn]
      refine (ih _ hl fun v hv => ?_).imp id fun k v hv => ?_
      · obtain ⟨h1, h2⟩ := hm v (List.mem_cons_of_mem w hv)
        refine ⟨h1, ?_⟩
        rw [memberOf_or, memberOf_only, h2, decide_eq_false (by rintro rfl; exact hw hv)]; rfl
      · rcases List.mem_cons.1 hv with rfl | hv
        · refine (callUntil_mem th v l _ _).1 ?_
          rw [memberOf_or, memberOf_only, decide_eq_true rfl, Bool.or_true]
        · exact k v hv

theorem callsFor_done {take : Nat} (ht : take ≠ 0) : take * 256000 ≤ s.sumCalled z (s.callsFor z take) ∨
    ∀ v, s.eligible z v = true → memberOf v (s.callsFor z take) = true := by
  have e : s.callsFor z take =
      callUntil s (take * 256000) (s.sumCalled z s.area.calledSet) s.area.calledSet (s.uncalled z) := if_neg ht
  have d := callUntil_done (s := s) (z := z) (take * 256000) _ s.area.calledSet (uncalled_nodup s z) fun v hv =>
    (uncalled_mem s z v).1 hv
  rw [← e] at d
  refine d.imp id fun k v hv => ?_
  by_cases hc : s.isCalled v = true
  · exact (callsFor_mem s z take v).1 hc
  · exact k v ((uncalled_mem s z v).2 ⟨hv, by simpa using hc⟩)

/-- R99: with the same vents eligible and the calls of an own take made, the same own take calls no further vent. -/
theorem callsFor_again {take : Nat} (hi : t.image = s.image) (he : ∀ v, t.eligible z v = s.eligible z v)
    (hc : t.area.calledSet = s.callsFor z take) : t.callsFor z take = t.area.calledSet := by
  by_cases ht : take = 0
  · rw [State.callsFor, if_pos ht]
  rw [State.callsFor, if_neg ht]
  have sum : t.callSum z = s.sumCalled z (s.callsFor z take) :=
    sumOver_congr fun v => by simp only [State.callTerm, he, State.isCalled, hc, State.cfg, hi]
  rcases callsFor_done (s := s) (z := z) ht with h | h
  · rw [sum]
    cases t.uncalled z with
    | nil => rfl
    | cons v l => rw [callUntil, if_pos h]
  · have e : t.uncalled z = [] := List.eq_nil_iff_forall_not_mem.2 fun v hv => by
      obtain ⟨h1, h2⟩ := (uncalled_mem t z v).1 hv
      rw [he] at h1
      rw [State.isCalled, hc, h v h1] at h2; cases h2
    rw [e]; rfl

/-! ### A second recompute in one event (R101) -/

/-- R97: the own take that a recompute finds. -/
def State.ownTake (s : State) (z : Zone) : Nat :=
  let l := s.shares z (areaReport (s.primarySum z)) (areaReport (s.offerSum z))
  (walk s.image.node (deficit s.image.required[z] l) l).1

theorem allocate_called (z : Zone) (s : State) : ∃ a, allocate z s = s.withArea a ∧
    a.calledSet = s.callsFor z (s.ownTake z) ∧ a.balance = s.area.balance := ⟨_, rfl, rfl, rfl⟩

theorem syncPattern_area (before s : State) : (syncPattern before s).area = s.area := by
  unfold syncPattern
  split <;> rfl

theorem recalled_called (z : Zone) (s : State) :
    (recalled z s).area.calledSet = s.callsFor z (s.ownTake z) ∧ (recalled z s).area.balance = s.area.balance := by
  obtain ⟨a, e, h1, h2⟩ := allocate_called z s
  rw [recalled, syncPattern_area, e, State.withArea_area]
  exact ⟨h1, h2⟩

theorem areaSum_congr {p q : VentId → Bool} {f g : VentId → Position} (hi : t.image = s.image) (hp : ∀ v, p v = q v)
    (hf : ∀ v, q v = true → f v = g v) : t.areaSum p f = s.areaSum q g := by
  unfold State.areaSum
  refine sumOver_congr fun v => ?_
  rw [hp, show t.cfg v = s.cfg v by simp only [State.cfg, hi]]
  split
  · next h => rw [hf v h]
  · rfl

/-- R91, R92, R97: the own take stands with the peers, the planned terms of the primaries and the vents eligible. -/
theorem ownTake_congr (hi : t.image = s.image) (hp : t.peers = s.peers) (hw : t.windward = s.windward)
    (he : ∀ v, t.eligible z v = s.eligible z v)
    (ht : ∀ v, (s.cfg v).role ≠ .reserve → t.plannedTerm v = s.plannedTerm v) : t.ownTake z = s.ownTake z := by
  have cfg : ∀ v, t.cfg v = s.cfg v := fun v => by simp only [State.cfg, hi]
  have primary : t.primarySum z = s.primarySum z :=
    areaSum_congr hi (fun v => by simp only [State.countsPrimary, State.primaryOf, State.used, cfg, hw]) fun v k =>
      ht v fun r => by simp [State.countsPrimary, State.primaryOf, r] at k
  have offer : t.offerSum z = s.offerSum z := areaSum_congr hi he fun _ _ => rfl
  have shares : ∀ a b, t.shares z a b = s.shares z a b := fun a b => by simp only [State.shares, hi, hp]
  simp only [State.ownTake, primary, offer, shares, hi]

/-- R17, R101: where no vent is called the records stand. -/
theorem recalled_unchanged (h : s.callsFor z (s.ownTake z) = s.area.calledSet) (v : VentId) :
    (recalled z s).effective v = s.effective v := by
  obtain ⟨a, e, k, -⟩ := allocate_called z s
  have same : s.patternInputs = (s.withArea a).patternInputs := by
    simp only [State.patternInputs, State.withArea_area, State.withArea_fire, State.withArea_windward, k, h]
  rw [recalled, e, syncPattern, if_pos same]
  rfl

theorem brigade_of_sources (h : t.sources = s.sources) (v : VentId) :
    t.demand[v.val].brigade = s.demand[v.val].brigade := by
  have e := congrArg (fun u : State => u.demand[v.val].brigade) h
  simpa [State.sources, Records.standing] using e

theorem eligible_iff : s.eligible z v = true ↔ s.used v = true ∧ (s.cfg v).role = .reserve ∧ memberOf z (s.cfg v).mask = true ∧
    s.windward[v].flag = false ∧ ¬ VentState.stuck s.vents[v.val].state ∧ s.demand[v.val].brigade = none := by
  simp only [State.eligible, VentState.stuck, Bool.and_eq_true, beq_iff_eq, bne_iff_ne, Bool.not_eq_true',
    Option.isNone_iff_eq_none, Fin.getElem_fin, not_or, and_assoc, ne_eq]

/-- R92: what makes a vent eligible but for its own state is a matter of the event's causes. -/
theorem eligible_congr (h : t.sources = s.sources)
    (hv : VentState.stuck t.vents[v.val].state ↔ VentState.stuck s.vents[v.val].state) : t.eligible z v = s.eligible z v := by
  have hi : t.image = s.image := (congrArg State.image h :)
  have hw : t.windward = s.windward := (congrArg State.windward h :)
  have hu : t.used v = s.used v := by simp only [State.used, State.cfg, hi]
  have hc : t.cfg v = s.cfg v := by simp only [State.cfg, hi]
  rw [Bool.eq_iff_iff, eligible_iff, eligible_iff, hu, hc, hw, hv, brigade_of_sources h]

theorem settleDemands_area (who : VentId → Bool) (hs : s.DriveLaw) : (settleDemands who before s).area = s.area := by
  obtain ⟨_, _, -, -, -, -, -, -, -, e, -⟩ := settleDemands_at who before hs 0
  exact area_of_still e

theorem schedule_area (x : State) (hs : s.DriveLaw) : (schedule x s).area = s.area :=
  area_of_still (schedule_turns (v := 0) (call := fun _ => False) x hs).2.1

theorem formReport_balance (z : Zone) (x : Nat × Nat) (s : State) : (formReport z x s).area.balance = s.area.balance := by
  rw [formReport, State.withArea_area]

/-- R86: no recompute moves the balance zone. -/
theorem rebalance_balance (b : Bool) (hs : s.DriveLaw) : (rebalance b before s).area.balance = s.area.balance := by
  unfold rebalance
  split
  swap
  · rw [settleDemands_area everyVent hs]
  unfold recompute
  split
  · rfl
  · next z h =>
    have a := settleDemands_area (before := before) everyVent ((recalled_aside z s).driveLaw hs)
    rw [formReport_balance, ← (recalled_called z s).2, ← a, recalled]

/-- R99, R101: a recompute that follows another and a pre-check in one event leaves every effective demand as it is. -/
theorem recalled_again (x : State) (h : Calm before s) (hl : s.line.state = before.line.state) (hs : s.DriveLaw)
    (hp : ∀ w, before.firePatternHolds w) (hm : s.fireMode = true) (ha : s.active = true) (hz : s.area.balance = some z)
    (v : VentId) : (recalled z (schedule x (rebalance true before s))).effective v =
      (schedule x (rebalance true before s)).effective v := by
  have turns : ∀ w, Turns (FireCall before w) before.lineDown w s (schedule x (rebalance true before s)) := fun w => by
    obtain ⟨t1, s1⟩ := rebalance_turns true (h.stage hl hs w) h
    exact t1.trans (s1.schedule x).1
  have src : (schedule x (rebalance true before s)).sources = s.sources :=
    (schedule_sources x _).trans (rebalance_sources true before s)
  have calls : (schedule x (rebalance true before s)).area.calledSet = s.callsFor z (s.ownTake z) := by
    obtain ⟨_, _, -, -, -, -, hd⟩ := rebalance_at true h hs v
    rw [schedule_area x hd, ← (recalled_called z s).1]
    have e1 : rebalance true before s =
        formReport z (s.primarySum z, s.offerSum z) (settleDemands everyVent before (recalled z s)) := by
      simp only [rebalance, hm, ha, Bool.and_self, if_true, recompute, hz, recalled]
    obtain ⟨r, e3, e4⟩ := formReport_eq z (s.primarySum z, s.offerSum z) (settleDemands everyVent before (recalled z s))
    rw [e1, e3, State.withArea_area, e4, settleDemands_area everyVent ((recalled_aside z s).driveLaw hs)]
  generalize schedule x (rebalance true before s) = t at *
  have eligible : ∀ w, t.eligible z w = s.eligible z w := fun w => eligible_congr src ((turns w).stuck (hp w))
  have hi : t.image = s.image := (congrArg State.image src :)
  have take : t.ownTake z = s.ownTake z :=
    ownTake_congr hi (congrArg State.peers src :) (congrArg State.windward src :) eligible fun w hr =>
      (turns w).planned fun y hy k => hr (by have := (k.called (hp w)).1; rwa [State.cfg, hy] at this)
  exact recalled_unchanged (by rw [take]; exact callsFor_again hi eligible calls) v

/-- R24: a recompute that leaves a vent's effective demand as it is leaves the vent alone. -/
theorem rebalance_uncalled (b : Bool) (h : Calm before s) (hs : s.DriveLaw)
    (hn : s.used v = true → s.fireMode = true → s.active = true → ∀ z, s.area.balance = some z →
      (recalled z s).effective v = s.effective v) : Keeps v s (rebalance b before s) := by
  obtain ⟨u, x, h1, -, h3, h4, -⟩ := rebalance_at b h hs v
  rcases h3 with rfl | ⟨-, k⟩
  · exact h1.trans h4
  · obtain ⟨z, hz, ha, he⟩ := k.recalls
    exact absurd (he.trans (hn k.used k.mode ha z hz)) k.changed

/-- R99, R101: after a recompute and a pre-check a second recompute leaves a vent alone, where the first was made for it. -/
theorem rebalance_again {b : Bool} (d : Bool) (x : State) (h : Calm before s) (hl : s.line.state = before.line.state)
    (hs : s.DriveLaw) (hp : ∀ w, before.firePatternHolds w) (due : s.used v = true → b = true)
    (hy : schedule x (rebalance b before s) = t) : Keeps v t (rebalance d t t) := by
  obtain ⟨_, _, -, -, -, -, hr⟩ := rebalance_at b h hs v
  have src : t.sources = s.sources := by
    rw [← hy]; exact (schedule_sources x _).trans (rebalance_sources b before s)
  have bal : t.area.balance = s.area.balance := by rw [← hy, schedule_area x hr, rebalance_balance b hs]
  have law : t.DriveLaw := by rw [← hy]; exact (schedule_turns (v := v) (call := fun _ => False) x hr).2.2
  have img : t.image = s.image := (congrArg State.image src :)
  have boot : t.boot = s.boot := (congrArg State.boot src :)
  refine rebalance_uncalled d (.refl t) law fun hu hm ha z hz => ?_
  obtain rfl := due (by rwa [State.used, State.cfg, img] at hu)
  rw [← hy]
  refine recalled_again x h hl hs hp (by rwa [← fireMode_of_sources src]) ?_ (by rwa [← bal]) v
  rwa [State.active, boot] at ha

end Sys2Proof.Machine
end

section
/-! SUPPORT. A DWELL from its beginning to its end (R40, R57): only its due expiry ends it, and a vent whose DWELL has ended does not
dwell again in the same event. -/

namespace Sys2Proof.Machine

open Relation

variable {P : Phase → Prop} {v w : VentId} {s t u x before : State} {call : State → Prop} {down : Bool} {i : Instr}

/-! ### What ends and what begins a DWELL -/

/-- The vent dwells on, to the end its DWELL had. -/
structure Dwells (v : VentId) (s t : State) : Prop where
  state : t.vents[v.val].state = .dwell
  ends : t.vents[v.val].dwellEnds = s.vents[v.val].dwellEnds

/-- R57: only a verdict takes a vent out of DWELL. -/
theorem Move.dwells {ph : Phase} (m : Move ph True w s t) (hp : ph ≠ .verdict) (hs : s.vents[v.val].state = .dwell) :
    Dwells v s t := by
  have same (h : t.vents[v.val] = s.vents[v.val]) : Dwells v s t := ⟨by rw [h]; exact hs, by rw [h]⟩
  have not_running {Q : Prop} (k : s.vents[v.val].state.running = true) : Q := by rw [hs] at k; cases k
  by_cases hv : v = w
  swap
  · exact same (m.others.1 v hv)
  subst hv
  cases m with
  | note f h => exact ⟨by rw [updVent_same, h.state, hs], by rw [updVent_same, h.kept.2.2.2]⟩
  | rest f free h => exact absurd hs (free.notDwell trivial)
  | announce _ _ hw => rw [hs] at hw; cases hw
  | begin d k c h _ => rcases (h.origin trivial).2 with ⟨-, k⟩ | ⟨-, k, -⟩ <;> rw [hs] at k <;> cases k
  | clear => exact same rfl
  | stop p hr _ => exact not_running (hr trivial)
  | withdraw old hr _ _ _ _ _ => exact not_running hr
  | tune c f _ _ _ => exact same rfl
  | anchored c d _ _ _ => exact same rfl
  | timeout k _ => exact absurd k hp
  | undwell k _ => exact absurd k hp

/-- R40: a DWELL lasts 300 ms from its beginning. -/
theorem Move.dwell_begins {ph : Phase} {lawful : Prop} (m : Move ph lawful w s t) (hs : s.vents[v.val].state ≠ .dwell)
    (ht : t.vents[v.val].state = .dwell) : t.vents[v.val].dwellEnds = some (s.now + Config.dwell) := by
  by_cases hv : v = w
  swap
  · rw [m.others.1 v hv] at ht; exact absurd ht hs
  subst hv
  cases m with
  | note f h => rw [updVent_same, h.state] at ht; exact absurd ht hs
  | rest f free h => rw [updVent_same] at ht ⊢; exact h.dwell ht
  | announce _ _ _ => rw [announce_same] at ht; cases ht
  | begin d k c _ _ => rw [begunRun_same] at ht; cases d <;> cases ht
  | clear => exact absurd ht hs
  | stop p _ _ => rw [stopDriven_vents] at ht; exact absurd ht hs
  | withdraw old _ _ _ _ _ _ => rw [toIdle_state] at ht; cases ht
  | tune c f _ _ _ => exact absurd ht hs
  | anchored c d _ _ _ => exact absurd ht hs
  | timeout _ _ => rw [runTimeout, toLocked, updVent_same] at ht; cases ht
  | undwell _ _ => rw [toIdle_state] at ht; cases ht

theorem Path.dwells (p : Path P True s t) (hp : ¬ P .verdict) (hs : s.vents[v.val].state = .dwell) : Dwells v s t := by
  induction p with
  | refl => exact ⟨hs, rfl⟩
  | @tail y t p m ih =>
    have k : Dwells v y t := by
      rcases m with ⟨m, -⟩ | ⟨ph, w, hph, m⟩
      · exact ⟨by rw [m.vents]; exact ih.state, by rw [m.vents]⟩
      · exact m.dwells (by rintro rfl; exact hp hph) ih.state
    exact ⟨k.state, k.ends.trans ih.ends⟩

theorem Path.dwell_begins (p : Path P True s t) (hp : ¬ P .verdict) (hs : s.vents[v.val].state ≠ .dwell)
    (ht : t.vents[v.val].state = .dwell) : t.vents[v.val].dwellEnds = some (t.now + Config.dwell) := by
  have now := Path.now p
  rw [now]
  induction p with
  | refl => exact absurd ht hs
  | @tail y t p m ih =>
    have ny := Path.now p
    by_cases hy : y.vents[v.val].state = .dwell
    · rcases m with ⟨m, -⟩ | ⟨ph, w, hph, m⟩
      · rw [m.vents]; exact ih hy ny
      · rw [(m.dwells (by rintro rfl; exact hp hph) hy).ends]; exact ih hy ny
    · rcases m with ⟨m, -⟩ | ⟨ph, w, hph, m⟩
      · rw [m.vents] at ht; exact absurd ht hy
      · rw [m.dwell_begins hy ht, ny]

/-- R57: a verdict ends a DWELL at its due expiry. -/
theorem Judged.dwells (h : Judged i s u) (hs : s.vents[v.val].state = .dwell) : Dwells v s u ∨
    ∃ dt e, i = .dwellExpiry dt v ∧ s.vents[v.val].dwellEnds = some e ∧ e ≤ s.now := by
  have same (h : u.vents[v.val] = s.vents[v.val]) : Dwells v s u := ⟨by rw [h]; exact hs, by rw [h]⟩
  cases h with
  | nothing => exact .inl (same rfl)
  | anchored dt c w d _ _ _ => exact .inl (same rfl)
  | timeout dt w _ hr =>
    have m : Move .verdict True w s (runTimeout w s) := .timeout s rfl fun _ => hr
    refine .inl (same (m.others.1 v ?_))
    rintro rfl
    rw [hs] at hr; cases hr
  | undwell dt w e hi hw he hn =>
    by_cases hv : v = w
    · subst hv; exact .inr ⟨dt, e, hi, he, hn⟩
    · have m : Move .verdict True w s (toIdle w (s.updVent w fun x => { x with lastDir := none })) := .undwell s rfl hw
      exact .inl (same (m.others.1 v hv))

theorem Judged.dwell_begins (h : Judged i s u) (hs : s.vents[v.val].state ≠ .dwell) : u.vents[v.val].state ≠ .dwell := by
  intro hu
  rcases h.move (lawful := True) with rfl | ⟨w, m⟩
  · exact hs hu
  cases h with
  | nothing => exact hs hu
  | anchored _ _ _ _ _ _ _ => exact hs hu
  | timeout dt w _ _ =>
    by_cases hv : v = w
    · subst hv; rw [runTimeout, toLocked, updVent_same] at hu; cases hu
    · rw [runTimeout, toLocked, updVent_other _ hv, stopDriven_vents] at hu; exact hs hu
  | undwell dt w _ _ _ _ _ =>
    by_cases hv : v = w
    · subst hv; rw [toIdle_state] at hu; cases hu
    · rw [toIdle, updVent_other _ hv, updVent_other _ hv] at hu; exact hs hu

/-! ### A vent whose DWELL has ended (R57) -/

/-- The vent is at rest with no direction of a last run: no move is forbidden it. -/
structure Fresh (v : VentId) (s : State) : Prop where
  dir : s.vents[v.val].lastDir = none
  rests : s.vents[v.val].state.running = false
  awake : s.vents[v.val].state ≠ .dwell

/-- The vent is fresh, or has begun to run. -/
def Departs (v : VentId) (s : State) : Prop := Fresh v s ∨ s.vents[v.val].state.running = true

theorem Departs.awake (h : Departs v s) : s.vents[v.val].state ≠ .dwell := by
  rcases h with h | h
  · exact h.awake
  · intro k; rw [k] at h; cases h

theorem Departs.keeps (h : Departs v s) (k : Keeps v s t) : Departs v t := by
  refine h.imp (fun h => ?_) fun h => by rw [k.vent]; exact h
  exact ⟨by rw [k.vent]; exact h.dir, by rw [k.vent]; exact h.rests, by rw [k.vent]; exact h.awake⟩

theorem Fresh.awake_of (h : Fresh v s) {y : VentState} (k : s.vents[v.val].restsIn y) : y ≠ .dwell := by
  rintro rfl
  rcases k with k | k | ⟨-, k⟩
  · cases k
  · cases k
  · exact k h.dir

theorem Fresh.handed (h : Fresh v s) (hd : s.DriveLaw) : Fresh v (handOnVent v s) := by
  have r := (handOnVent_moves (v := v) fun _ => hd).rests h.rests
  refine ⟨r.counts.2.2.trans h.dir, r.state, ?_⟩
  rcases handOnVent_restsIn h.rests with e | e
  · rw [e]; exact h.awake
  · exact h.awake_of e

/-- R42, R70, R80: a pre-check lets it go, or leaves it waiting. -/
theorem Departs.served (h : Departs v s) (k : Served v s t) : Departs v t := by
  have waits {Q : Prop} (hw : s.vents[v.val].state = .waitSupply) (f : Fresh v s → Q) : Q := by
    rcases h with h | h
    · exact f h
    · rw [hw] at h; cases h
  cases k with
  | kept => exact h
  | given hd hw _ _ _ _ =>
    refine waits hw fun h => ?_
    rcases giveStart_cases v s with ⟨-, e⟩ | ⟨d, k, -, ⟨-, e⟩ | ⟨hp, e⟩⟩ <;> rw [e]
    · exact .inl ⟨by simpa [toIdle] using h.dir, by rw [toIdle_state]; rfl, by rw [toIdle_state]; nofun⟩
    · exact .inr (by simp only [beginRun_vents, updVent_same]; exact running_runState d)
    · exact absurd h.dir (lastDir_of_forbidden hp)
  | announced _ hw _ _ _ _ =>
    refine waits hw fun h => .inl ?_
    exact ⟨by rw [announce_same]; exact h.dir, by rw [announce_same]; rfl, by rw [announce_same]; nofun⟩

theorem Departs.offered (h : Departs v s) (k : Offered v s t) : Departs v t := by
  obtain ⟨a, y, k1, k2, k3⟩ := k.vent
  have ha := h.keeps k1
  cases k2 with
  | kept => exact ha.keeps k3
  | back id hd hs =>
    have ann := hd.2.2.2 _ hs
    simp only [Fin.getElem_fin] at ann
    rcases ha with f | f
    · have r := (returnStart_moves (ph := .settle) (lawful := True) fun _ => ann).rests f.rests
      exact Departs.keeps (.inl ⟨r.counts.2.2.trans f.dir, r.state, f.awake_of (returnStart_restsIn v a)⟩) k3
    · rw [ann] at f; cases f

theorem Departs.schedule (h : Departs v s) (y : State) (hd : s.DriveLaw) :
    Departs v (schedule y s) ∧ (Machine.schedule y s).DriveLaw := by
  obtain ⟨a, b, h1, -, h3, h4, -, h6⟩ := schedule_at y v hd
  exact ⟨((h.keeps h1).served h3).keeps h4, h6⟩

/-- R99: a recompute may call it, and leaves it fresh. -/
theorem Fresh.rebalance (h : Fresh v s) (b : Bool) (hc : Calm before s) (hs : s.DriveLaw) :
    Departs v (rebalance b before s) ∧ (Machine.rebalance b before s).DriveLaw := by
  obtain ⟨y, z, h1, h2, h3, h4, h5⟩ := rebalance_at b hc hs v
  have fresh : Fresh v y := ⟨by rw [h1.vent]; exact h.dir, by rw [h1.vent]; exact h.rests, by rw [h1.vent]; exact h.awake⟩
  refine ⟨Departs.keeps (.inl ?_) h4, h5⟩
  rcases h3 with rfl | ⟨rfl, -⟩
  · exact fresh
  · exact fresh.handed h2

/-- R57: what the end of a DWELL leaves. -/
theorem endDwell_fresh (hv : s.vents[v.val].state = .dwell) (hd : s.DriveLaw) :
    Fresh v (endDwell v s) ∧ Calm s (endDwell v s) ∧ (endDwell v s).DriveLaw ∧ (endDwell v s).still = s.still := by
  have last : (s.updVent v fun x => { x with lastDir := none }).vents[v.val].lastDir = none := by rw [updVent_same]
  have still : (endDwell v s).still = s.still := evaluate_still v _
  have rest := evaluate_restsIn v (s.updVent v fun x => { x with lastDir := none })
  obtain ⟨-, -, -, dir⟩ := evaluate_same v (s.updVent v fun x => { x with lastDir := none })
  refine ⟨⟨dir.trans last, evaluate_running v _, ?_⟩, ?_, ?_, still⟩
  · intro k
    rw [show (evaluate v (s.updVent v fun x => { x with lastDir := none })).vents[v.val].state = .dwell from k] at rest
    rcases rest with k | k | ⟨-, k⟩
    · cases k
    · cases k
    · exact k last
  · refine .of_still still (fun w hw => ?_) ⟨fun k => absurd (.inl k) rest.free, fun k => by rw [hv] at k; cases k⟩ ?_
    · rw [endDwell, evaluate_other hw]; exact updVent_other _ hw _
    · rw [endDwell, evaluate_held, updVent_held _ v _ ⟨rfl, rfl⟩]
  · have m : Move .verdict True v s _ := .undwell s rfl hv
    rw [endDwell, ← evaluate_toIdle]
    have hi := toIdle_state v (s.updVent v fun x => { x with lastDir := none })
    exact (evaluate_move (ph := .effect) (.of_idle hi fun _ => hd.start_ne (by rw [hv]; decide))).driveLaw trivial
      (m.driveLaw trivial hd)

/-- R57, R99: after the end of its DWELL a vent does not dwell again in the event: the recompute made for it calls every vent that
the event calls, before any start is given. -/
theorem endDwell_leaves (ht : finish Causes.none s (endDwell v s) = t) (hd : s.DriveLaw) (hp : ∀ w, s.firePatternHolds w)
    (hv : s.vents[v.val].state = .dwell) : t.vents[v.val].state ≠ .dwell := by
  obtain ⟨fresh, calm, hx, still⟩ := endDwell_fresh hv hd
  generalize endDwell v s = x at *
  obtain ⟨b, hb⟩ : ∃ b, b = balanceDue Causes.none s x (align s x) := ⟨_, rfl⟩
  have eb : balanced Causes.none s x = rebalance b s x := by rw [balanced, calm.align, hb, calm.align]
  have due : x.used v = true → b = true := fun hu => by
    have k : recomputeDue s x = true := by
      have ne : s.vents[v].state ≠ x.vents[v].state := fun e => fresh.awake (e.symm.trans hv)
      have : (eight.any fun w => x.used w &&
          (s.vents[w].state != x.vents[w].state || s.effective w != x.effective w)) = true :=
        List.any_eq_true.2 ⟨v, eight_all v, by rw [hu, bne_iff_ne.2 ne]; rfl⟩
      rw [recomputeDue, this, Bool.or_true]; rfl
    rw [hb, balanceDue, calm.align, k, Bool.or_true]; rfl
  obtain ⟨f1, d1⟩ := fresh.rebalance b calm hx
  obtain ⟨f2, d2⟩ := f1.schedule s d1
  have again := rebalance_again (recomputeDue x (schedule s (rebalance b s x))) s calm (by rw [line_of_still still]) hx hp due rfl
  have d3 := (rebalance_path (lawful := True) (P := Phase.decides) (recomputeDue x (schedule s (rebalance b s x)))
    (schedule s (rebalance b s x)) trivial trivial fun _ => d2).obeys (fun _ => d2) trivial
  obtain ⟨f4, d4⟩ := (f2.keeps again).schedule (schedule s (rebalance b s x)) d3
  have second : secondPass Causes.none s x = schedule (schedule s (rebalance b s x))
      (rebalance (recomputeDue x (schedule s (rebalance b s x))) (schedule s (rebalance b s x))
        (schedule s (rebalance b s x))) := by
    rw [secondPass, firstPass, eb, calm.align]
  rw [← second] at f4 d4
  have f5 : Departs v (decided Causes.none s x) := by
    unfold decided
    simp only [decideStarts_fst]
    exact f4.offered (sendFrames_offered Causes.none s _ d4 v)
  rw [← ht, finish_eq]
  exact (f5.keeps (((writeRetention_aside s _).keeps v).trans ((syncOutputs_aside s _).keeps v))).awake

end Sys2Proof.Machine
end

section
/-! SUPPORT. The direction of a vent's last run through an event (R40, R43, R83). -/

namespace Sys2Proof.Machine

open Relation

variable {P : Phase → Prop} {v w : VentId} {d : Dir} {s t u x y before : State} {call : State → Prop} {down : Bool} {i : Instr}
  {o : Prop}

/-! ### The direction of the last run, and a run that began at this moment -/

/-- R83: the vent runs, and a commit check began its run at this moment, from no last direction. -/
def State.freshRun (s : State) (v : VentId) : Prop :=
  s.vents[v.val].state.running = true ∧ s.vents[v.val].committed = some none ∧ s.vents[v.val].runStart = s.now

/-- The direction of the vent's last run is d, and only where `o` holds may a HOLD find its run not taken and clear it. -/
structure Heads (o : Prop) (v : VentId) (d : Dir) (s : State) : Prop where
  dir : s.vents[v.val].lastDir = some d
  fresh : s.freshRun v → o

theorem Heads.of_vent (h : Heads o v d s) (hv : t.vents[v.val] = s.vents[v.val]) (hn : t.now = s.now) : Heads o v d t :=
  ⟨by rw [hv]; exact h.dir, fun k => h.fresh (by rwa [State.freshRun, hv, hn] at k)⟩

theorem Heads.of_rest (hd : t.vents[v.val].lastDir = some d) (hr : t.vents[v.val].state.running = false) : Heads o v d t :=
  ⟨hd, fun k => absurd k.1 (by rw [hr]; decide)⟩

theorem permits_dir {z : Vent} {e : Dir} (h : z.permits e = true) (hd : z.lastDir = some d) : e = d := by
  rw [Vent.permits, hd] at h
  cases d <;> cases e <;> first | rfl | cases h

/-- R40, R43: outside verdicts and the taking of demands every move keeps the direction of the last run. -/
theorem Move.heads {ph : Phase} (m : Move ph True w s t) (hp : ph ≠ .verdict ∧ ph ≠ .settle) (h : Heads o v d s) :
    Heads o v d t := by
  have now := now_of_still m.still
  by_cases hv : v = w
  swap
  · exact h.of_vent (m.others.1 v hv) now
  subst hv
  cases m with
  | note f k =>
    obtain ⟨k1, k2, k3, -⟩ := k.kept
    refine ⟨by rw [updVent_same, k1]; exact h.dir, fun j => h.fresh ?_⟩
    rwa [State.freshRun, updVent_same, k.state, k2, k3, now] at j
  | rest f free k => exact .of_rest (by rw [updVent_same, k.kept.1]; exact h.dir) (by rw [updVent_same]; exact k.state.1)
  | announce _ _ _ => exact .of_rest (by rw [announce_same]; exact h.dir) (by rw [announce_same]; rfl)
  | begin e k c hb hc =>
    have he := permits_dir hb.permits h.dir
    refine ⟨by rw [begunRun_same, he], fun j => ?_⟩
    have hj : c = some none := by have := j.2.1; rwa [begunRun_same] at this
    rcases hc with rfl | ⟨-, rfl⟩
    · cases hj
    · rw [h.dir] at hj; cases hj
  | clear => exact h.of_vent rfl now
  | stop p _ _ => exact h.of_vent (by rw [stopDriven_vents]) now
  | withdraw old _ _ _ _ _ k => exact absurd k hp.2
  | tune c f _ _ _ => exact h.of_vent rfl now
  | anchored c e k _ _ => exact absurd k hp.1
  | timeout k _ => exact absurd k hp.1
  | undwell k _ => exact absurd k hp.1

theorem Path.heads (p : Path P True s t) (hp : ∀ ph, P ph → ph ≠ .verdict ∧ ph ≠ .settle) (h : Heads o v d s) :
    Heads o v d t := by
  induction p with
  | refl => exact h
  | tail _ m ih =>
    rcases m with ⟨m, -⟩ | ⟨ph, w, hph, m⟩
    · exact ih.of_vent (by rw [m.vents]) m.now
    · exact m.heads (hp ph hph) ih

/-- R57: a verdict clears the direction of the last run at the due expiry of a DWELL only. -/
theorem Judged.heads (h : Judged i s u) (k : Heads o v d s) : Heads o v d u ∨
    s.vents[v.val].state = .dwell ∧ ∃ dt e, i = .dwellExpiry dt v ∧ s.vents[v.val].dwellEnds = some e ∧ e ≤ s.now := by
  cases h with
  | nothing => exact .inl k
  | anchored dt c w e _ _ _ => exact .inl (k.of_vent rfl rfl)
  | timeout dt w _ hr =>
    have m : Move .verdict True w s (runTimeout w s) := .timeout s rfl fun _ => hr
    by_cases hv : v = w
    · subst hv
      refine .inl (.of_rest ?_ ?_) <;> rw [runTimeout, toLocked, updVent_same]
      · simpa using k.dir
      · rfl
    · exact .inl (k.of_vent (m.others.1 v hv) (now_of_still m.still))
  | undwell dt w e hi hw he hn =>
    by_cases hv : v = w
    · subst hv; exact .inr ⟨hw, dt, e, hi, he, hn⟩
    · have m : Move .verdict True w s (toIdle w (s.updVent w fun x => { x with lastDir := none })) := .undwell s rfl hw
      exact .inl (k.of_vent (m.others.1 v hv) (now_of_still m.still))

/-! ### A demand handed on (R54 to R56, R83) -/

/-- No taking of a demand begins a run. -/
theorem Moves.freshRun (p : Moves .settle True v s t) (h : t.freshRun v) : s.freshRun v := by
  induction p with
  | refl => exact h
  | @tail y t p m ih =>
    apply ih
    have now := now_of_still m.still
    have resting {Q : Prop} (k : t.vents[v.val].state.running = false) : Q := absurd h.1 (by rw [k]; decide)
    have same (k : t.vents[v.val] = y.vents[v.val]) : y.freshRun v := by rwa [State.freshRun, k, now] at h
    cases m with
    | note f k =>
      obtain ⟨-, k2, k3, -⟩ := k.kept
      rwa [State.freshRun, updVent_same, k.state, k2, k3, now] at h
    | rest f free k => exact resting (by rw [updVent_same]; exact k.state.1)
    | announce k _ _ => cases k
    | begin e k c hb _ => rcases (hb.origin trivial).2 with ⟨k, -⟩ | ⟨k, -, -⟩ <;> cases k
    | clear => exact same rfl
    | stop p _ _ => exact same (by rw [stopDriven_vents])
    | withdraw old _ _ _ _ _ _ => exact resting (by rw [toIdle_state]; rfl)
    | tune c f k _ _ => cases k
    | anchored c e k _ _ => cases k
    | timeout k _ => cases k
    | undwell k _ => cases k

/-- R54, R83: only HOLD changes the direction of the last run. -/
theorem Moves.dir (p : Moves .settle True v s t) (he : (s.effective v).1 ≠ .hold) (ht : s.vents[v.val].target ≠ .hold) :
    t.vents[v.val].lastDir = s.vents[v.val].lastDir ∧ t.vents[v.val].target ≠ .hold := by
  induction p with
  | refl => exact ⟨rfl, ht⟩
  | @tail y t p m ih =>
    obtain ⟨ih, hy⟩ := ih
    have same (k : t.vents[v.val] = y.vents[v.val]) :
        t.vents[v.val].lastDir = s.vents[v.val].lastDir ∧ t.vents[v.val].target ≠ .hold := by rw [k]; exact ⟨ih, hy⟩
    cases m with
    | note f k =>
      rw [updVent_same, k.kept.1]
      refine ⟨ih, ?_⟩
      rcases k.target with e | e <;> rw [e]
      · exact hy
      · rwa [effective_of_still (Moves.still p)]
    | rest f free k =>
      obtain ⟨k1, -, -, k4⟩ := k.kept
      rw [updVent_same, k1, k4]; exact ⟨ih, hy⟩
    | announce k _ _ => cases k
    | begin e k c hb _ => rcases (hb.origin trivial).2 with ⟨k, -⟩ | ⟨k, -, -⟩ <;> cases k
    | clear => exact same rfl
    | stop p _ _ => exact same (by rw [stopDriven_vents])
    | withdraw old _ _ _ _ k _ => exact absurd k hy
    | tune c f k _ _ => cases k
    | anchored c e k _ _ => cases k
    | timeout k _ => cases k
    | undwell k _ => cases k

/-- R54 to R56: a target that is a position leaves the direction of the last run. -/
theorem handOnVent_dir (hd : s.DriveLaw) (he : (s.effective v).1 ≠ .hold) :
    (handOnVent v s).vents[v.val].lastDir = s.vents[v.val].lastDir := by
  by_cases hr : s.vents[v.val].state.running = true
  · obtain ⟨d, hs⟩ := dir_of_running hr
    rcases handOnVent_running_cases hs with e | ⟨-, e⟩ <;> rw [e]
    · rw [noted_same]; rfl
    · have ht : (noted v s).vents[v.val].target = (s.effective v).1 := by rw [noted_same]; rfl
      have hr' : (noted v s).vents[v.val].state.running = true := by rw [noted_same]; exact hr
      have p := meetTarget_moves (lawful := True) d _ hr' ht fun _ => hd.start_ne (by rw [hs]; cases d <;> nofun)
      refine (p.dir ?_ (by rwa [ht])).1.trans (by rw [noted_same]; rfl)
      exact he
  · exact ((handOnVent_moves fun _ => hd).rests (by simpa using hr)).counts.2.2

/-- R40, R43: a running vent's last direction is that of its run, and so was that before it, where a commit check noted one. -/
def Vent.headed (x : Vent) : Prop :=
  ∀ e : Dir, x.state = e.runState → x.lastDir = some e ∧ ∀ f, x.committed = some (some f) → f = e

theorem headed_of_runLaw (h : s.RunLaw) (v : VentId) : s.vents[v.val].headed := h.2.2 v

/-- R54, R83: a vent that is handed HOLD keeps the direction of its last run, or rests with none where the start that a commit
check gave at this moment is not taken. -/
theorem handOnVent_hold (hl : s.vents[v.val].headed) (hd : s.DriveLaw) (he : (s.effective v).1 = .hold)
    (h : s.vents[v.val].lastDir = some d) : (handOnVent v s).vents[v.val].lastDir = some d ∨
      s.freshRun v ∧ (handOnVent v s).vents[v.val].state = .idle ∧ (handOnVent v s).vents[v.val].lastDir = none := by
  by_cases hr : s.vents[v.val].state.running = true
  swap
  · exact .inl (((handOnVent_moves fun _ => hd).rests (by simpa using hr)).counts.2.2.trans h)
  obtain ⟨e, hs⟩ := dir_of_running hr
  rcases handOnVent_running_cases hs with k | ⟨-, k⟩ <;> rw [k]
  · left; rw [noted_same]; exact h
  have last : (noted v s).vents[v.val].lastDir = some d := by rw [noted_same]; exact h
  have hold : (noted v s).vents[v.val].target = .hold := by rw [noted_same]; exact he
  rw [he]
  change (meetHold v (noted v s)).vents[v.val].lastDir = _ ∨ _ ∧ (meetHold v (noted v s)).vents[v.val].state = _ ∧
    (meetHold v (noted v s)).vents[v.val].lastDir = _
  rcases meetHold_cases v (noted v s) with ⟨old, hn, hc, k⟩ | ⟨-, k⟩ <;> rw [k]
  · have rests : withdrawStart v old (noted v s) =
        toIdle v ((stopInPlace v (noted v s)).updVent v fun x => { x with lastDir := old }) := by
      rw [withdrawStart, evaluate_toIdle, evaluate, wants_hold (by rw [updVent_same, stopInPlace_vents]; exact hold)]
    have hc : s.vents[v.val].committed = some old := by rw [noted_same] at hc; exact hc
    have hn : s.vents[v.val].runStart = s.now := by rw [noted_same] at hn; exact hn
    rw [rests]
    rcases old with _ | old
    · exact .inr ⟨⟨hr, hc, hn⟩, toIdle_state v _, by simp [toIdle]⟩
    · obtain ⟨h1, h2⟩ := hl e hs
      refine .inl ?_
      rw [h2 old hc, ← h1, h]
      simp [toIdle]
  · left
    obtain ⟨-, -, -, dir⟩ := evaluate_same v (toIdle v (countStop v (stopInPlace v (noted v s))))
    rw [dir]
    simpa [toIdle, countStop_same, Vent.counted] using last

/-! ### The completion of an event -/

theorem patternRecord_of_inputs (h : t.patternInputs = s.patternInputs) (hi : t.image = s.image) (v : VentId) :
    t.patternRecord v = s.patternRecord v := by
  obtain ⟨hz, h⟩ := Prod.mk.inj h
  obtain ⟨hw, hc⟩ := Prod.mk.inj h
  have hw : t.windward[v].flag = s.windward[v].flag := List.map_inj_left.1 hw v (eight_all v)
  have hl : t.leadZone = s.leadZone := by simp only [State.leadZone, hz]
  have cfg : t.cfg v = s.cfg v := by simp only [State.cfg, hi]
  have target : t.patternTarget v = s.patternTarget v := by
    unfold State.patternTarget
    rw [cfg, hz, hw, hc, hl]
  have mode : t.fireMode = s.fireMode := by simp only [State.fireMode, hz]
  rw [State.patternRecord, State.patternRecord, target, mode, State.used, State.used, cfg]

/-- R16, R17, R35: where the FIRE record of a vent follows the pattern when an event begins, and the command itself has left it, it
follows it when the records have followed. -/
theorem syncRecords_pattern (hi : s.image = before.image) (hf : s.demand[v.val].fire = before.demand[v.val].fire)
    (hp : before.firePatternHolds v) : (syncRecords before s).firePatternHolds v := by
  have weather : ∀ y : State, y.firePatternHolds v → (syncWeatherRecords before y).firePatternHolds v := fun y hy => by
    unfold syncWeatherRecords
    split
    · exact hy
    · have e := patternRecord_of_inputs (s := y) (t := writeWeatherRecords y) rfl rfl v
      rw [State.firePatternHolds, e, ← show y.demand[v].fire = y.patternRecord v from hy]
      simp [writeWeatherRecords, State.withDemand]
  have pattern : ∀ y : State, y.image = s.image → y.demand = s.demand → (syncPattern before y).firePatternHolds v :=
    fun y h1 h2 => by
      unfold syncPattern
      split
      · next k =>
        rw [State.firePatternHolds, patternRecord_of_inputs k.symm (h1.trans hi) v, ← show before.demand[v].fire =
          before.patternRecord v from hp, h2]
        exact hf
      · have e := patternRecord_of_inputs (s := y) (t := writePattern y) rfl rfl v
        rw [State.firePatternHolds, e]
        simp [writePattern, State.withDemand]
  refine weather _ (pattern _ ?_ ?_) <;>
    · unfold dropCalls syncBalance
      simp only
      repeat' split
      all_goals rfl

/-- R35: an effective HOLD is that of a BRIGADE record, or fire mode does not hold. -/
theorem hold_above (hu : s.used v = true) (hp : s.firePatternHolds v) (he : (s.effective v).1 = .hold) :
    s.demand[v.val].brigade.isSome = true ∨ s.fireMode = false := by
  rcases hb : s.demand[v.val].brigade with _ | b
  · refine .inr (Bool.eq_false_iff.2 fun hm => ?_)
    have hr : s.patternRecord v = some { target := .pos (s.patternTarget v), origin := .firePattern, expiry := none } := by
      rw [State.patternRecord, hm, hu]; rfl
    rw [State.effective, Fin.getElem_fin, effective_fire hb (hp.trans hr)] at he
    cases he
  · exact .inl rfl

/-- R83: the run that a commit check had begun at this moment was found not taken: the vent rests under HOLD with no last
direction, and no call reaches it. -/
structure Withdrawn (before : State) (v : VentId) (s : State) : Prop where
  found : before.freshRun v
  settled : Settled v s
  state : s.vents[v.val].state = .idle
  dir : s.vents[v.val].lastDir = none
  hold : s.vents[v.val].target = .hold

namespace Withdrawn

theorem keeps (h : Withdrawn before v s) (k : Keeps v s t) (hs : Settled v t) : Withdrawn before v t :=
  ⟨h.found, hs, by rw [k.vent]; exact h.state, by rw [k.vent]; exact h.dir, by rw [k.vent]; exact h.hold⟩

theorem unlocked (h : before.freshRun v) : before.vents[v.val].state ≠ .locked := by
  intro k
  have := h.1
  rw [k] at this; cases this

theorem rebalance (h : Withdrawn before v s) (b : Bool) : Withdrawn before v (rebalance b before s) := by
  obtain ⟨k1, k2⟩ := h.settled.rebalance (before := before) b fun k => absurd k (unlocked h.found)
  exact h.keeps k1 k2

/-- R24: it rests so to the end of the event. -/
theorem finish (c : Causes) (h : Withdrawn before v (balanced c before s)) :
    (finish c before s).vents[v.val] = (balanced c before s).vents[v.val] := by
  have p := finish_settled c h.settled rfl
  exact (p.unmoved (fun _ _ => id) (by rw [h.state]; exact ⟨nofun, nofun⟩)).vent

end Withdrawn

/-- R24, R54, R83: a demand handed on keeps the direction of the last run, or finds the run not taken. -/
theorem handOnVent_heads (h : Heads o v d s) (hl : s.vents[v.val].headed) (hd : s.DriveLaw) :
    Heads o v d (handOnVent v s) ∨ s.freshRun v ∧ (s.effective v).1 = .hold ∧ (handOnVent v s).vents[v.val].state = .idle ∧
      (handOnVent v s).vents[v.val].lastDir = none := by
  have heads (k : (handOnVent v s).vents[v.val].lastDir = some d) : Heads o v d (handOnVent v s) :=
    ⟨k, fun j => h.fresh ((handOnVent_moves fun _ => hd).freshRun j)⟩
  by_cases he : (s.effective v).1 = .hold
  · rcases handOnVent_hold hl hd he h.dir with k | ⟨k1, k2, k3⟩
    · exact .inl (heads k)
    · exact .inr ⟨k1, he, k2, k3⟩
  · exact .inl (heads ((handOnVent_dir hd he).trans h.dir))

theorem settleDemands_heads (who : VentId → Bool) (h : Heads (before.freshRun v) v d s) (hd : s.DriveLaw)
    (hl : s.vents[v.val].headed) (hp : s.firePatternHolds v) :
    Heads (before.freshRun v) v d (settleDemands who before s) ∨ Withdrawn before v (settleDemands who before s) := by
  obtain ⟨u, x, h1, h2, h3, h4, h5, h6, h7, h8, h9⟩ := settleDemands_at who before hd v
  have hu := h.of_vent h1.vent h1.now
  have later (k : Heads (before.freshRun v) v d x) : Heads (before.freshRun v) v d (settleDemands who before s) := by
    refine Heads.of_vent ?_ h7.vent h7.now
    split
    · exact .of_rest ((evaluate_same v x).2.2.2.trans k.dir) (evaluate_running v x)
    · exact k
  by_cases hh : handsOn who before s v = true
  · rw [if_pos hh] at h4
    rcases handOnVent_heads hu (by rw [h1.vent]; exact hl) h3 with k | ⟨k1, k2, k3, k4⟩
    · exact .inl (later (k.of_vent h4.vent h4.now))
    · have found := hu.fresh k1
      have used : s.used v = true := by
        simp only [handsOn, Bool.and_eq_true] at hh; exact hh.1.1.2
      have nr : releasedOf who before x v = false := by
        simp [releasedOf, Withdrawn.unlocked found]
      rw [nr, if_neg Bool.false_ne_true] at h7
      have keeps := h4.trans h7
      have he : (s.effective v).1 = .hold := by rw [← effective_of_still h2]; exact k2
      have hold : (handOnVent v u).vents[v.val].target = .hold := (congrArg Prod.fst (handOnVent_held v u)).trans k2
      exact .inr ⟨found, handed_settled h2 keeps h8 h9 (hold_above used hp he), by rw [keeps.vent]; exact k3,
        by rw [keeps.vent]; exact k4, by rw [keeps.vent]; exact hold⟩
  · rw [if_neg hh] at h4
    exact .inl (later (hu.of_vent h4.vent h4.now))

theorem rebalance_heads (b : Bool) (h : Heads (before.freshRun v) v d s) (hd : s.DriveLaw) (hl : s.vents[v.val].headed)
    (hp : s.firePatternHolds v) :
    Heads (before.freshRun v) v d (rebalance b before s) ∨ Withdrawn before v (rebalance b before s) := by
  unfold rebalance
  split
  swap
  · exact settleDemands_heads everyVent h hd hl hp
  unfold recompute
  split
  · exact .inl h
  next z _ =>
  have a := recalled_aside z s
  have k := settleDemands_heads everyVent (h.of_vent (by rw [a.vents]) a.now) (a.driveLaw hd) (by rw [a.vents]; exact hl)
    (recalled_pattern z hp)
  rw [recalled] at k
  generalize settleDemands everyVent before (syncPattern s (allocate z s)) = y at *
  obtain ⟨r, e, -⟩ := formReport_eq z (s.primarySum z, s.offerSum z) y
  have f : Aside y (y.withArea r) := withArea_aside _ _
  rw [e]
  exact k.imp (fun k => k.of_vent rfl rfl) fun k =>
    k.keeps (f.keeps v) ⟨f.driveLaw k.settled.lawful, k.settled.held, k.settled.above⟩

/-- R24, R35, R54, R83: by the end of the first recompute of an event the direction of the last run stands, or the run is found not
taken. -/
theorem balanced_heads (c : Causes) (h : Heads (before.freshRun v) v d s) (hd : s.DriveLaw) (hl : s.RunLaw)
    (hi : s.image = before.image) (hf : s.demand[v.val].fire = before.demand[v.val].fire) (hp : before.firePatternHolds v) :
    Heads (before.freshRun v) v d (balanced c before s) ∨ Withdrawn before v (balanced c before s) := by
  have p1 : Path (· = .records) True s (syncRecords before s) := syncRecords_path before s rfl
  have h1 := p1.heads (fun ph k => by subst k; exact ⟨nofun, nofun⟩) h
  have d1 := p1.obeys (fun _ => hd) trivial
  have l1 := p1.runLaw hd hl
  have g1 := syncRecords_pattern hi hf hp
  have p2 : Path Phase.decides True s (align before s) := align_path before trivial trivial fun _ => hd
  have d2 := p2.obeys (fun _ => hd) trivial
  have l2 := p2.runLaw hd hl
  have k := settleDemands_heads (fun w => !(syncRecords before s).awaitsCalls w) h1 d1 (headed_of_runLaw l1 v) g1
  obtain ⟨_, _, -, -, -, -, -, -, -, e, -⟩ :=
    settleDemands_at (fun w => !(syncRecords before s).awaitsCalls w) before d1 v
  have g2 : (align before s).firePatternHolds v := (firePattern_of_still e v).2 g1
  rcases k with k | k
  · exact rebalance_heads _ k d2 (headed_of_runLaw l2 v) g2
  · exact .inr (k.rebalance _)

/-- R55, R56: no call changes the direction of the last run, and no start that is given does. -/
theorem Turn.dir (m : Turn (FireCall before w) down v s t) (h : s.vents[v.val].lastDir = some d) (hw : w = v) :
    t.vents[v.val].lastDir = some d := by
  subst hw
  cases m with
  | keeps k => rw [k.vent]; exact h
  | hand hd k =>
    obtain ⟨p, e, -⟩ := k.target
    exact (handOnVent_dir hd (by rw [e]; nofun)).trans h
  | given hd hw _ _ =>
    rcases giveStart_cases w s with ⟨-, e⟩ | ⟨f, k, -, ⟨hp, e⟩ | ⟨-, e⟩⟩ <;> rw [e]
    · simpa [toIdle] using h
    · rw [beginRun_begun, begunRun_same, permits_dir hp h]
    · simpa [toDwell] using h
  | announced _ _ _ => rw [announce_same]; exact h
  | back _ ha =>
    have hr : s.vents[w.val].state.running = false := by rw [ha]; rfl
    exact ((returnStart_moves (ph := .settle) (lawful := True) fun _ => ha).rests hr).counts.2.2.trans h

theorem Turns.dir (m : Turns (FireCall before v) down v s t) (h : s.vents[v.val].lastDir = some d) :
    t.vents[v.val].lastDir = some d := by
  induction m with
  | refl => exact h
  | tail _ m ih => exact m.dir ih rfl

/-- R83: what the event that began in `before` makes of the direction d of the vent's last run. -/
def KeepsDir (before : State) (v : VentId) (d : Dir) (t : State) : Prop :=
  t.vents[v.val].lastDir = some d ∨
    before.freshRun v ∧ t.vents[v.val].state = .idle ∧ t.vents[v.val].target = .hold ∧ t.vents[v.val].lastDir = none

theorem finish_heads (c : Causes) (ht : finish c before s = t) (h : Heads (before.freshRun v) v d s) (hd : s.DriveLaw)
    (hl : s.RunLaw) (hi : s.image = before.image) (hf : s.demand[v.val].fire = before.demand[v.val].fire)
    (hp : before.firePatternHolds v) : KeepsDir before v d t := by
  have p : Path Phase.decides True s (balanced c before s) :=
    balanced_path c before trivial trivial fun _ => hd
  rcases balanced_heads c h hd hl hi hf hp with k | k
  · left
    rw [← ht]
    exact (finish_late c (p.obeys (fun _ => hd) trivial) v).dir k.dir
  · have e := k.finish
    rw [ht] at e
    exact .inr ⟨k.found, by rw [e]; exact k.state, by rw [e]; exact k.hold, by rw [e]; exact k.dir⟩

end Sys2Proof.Machine
end

section
/-! SUPPORT. The direction of a vent's last run through the passage to RUN, in which every demand is handed on (R24, R174). -/

namespace Sys2Proof.Machine

open Relation

variable {v w : VentId} {d : Dir} {s t u x y before : State}

/-! ### The passage before the demands are handed on (R7, R174) -/

/-- What the records and the calls are formed from, and the records. -/
def State.grounds (s : State) : ZoneSet × Area × Vector Windward 8 × Weather × Vector Records 8 × Image :=
  (s.fire.zones, s.area, s.windward, s.weather, s.demand, s.image)

theorem grounds_of_still (h : t.still = s.still) : t.grounds = s.grounds := by
  simp only [State.grounds, fire_of_still h, area_of_still h, windward_of_still h, weather_of_still h, demand_of_still h,
    image_of_still h]

theorem drawLost_grounds (q : Queued) (s : State) : (drawLost q s).grounds = s.grounds := by
  unfold drawLost
  split
  · next a _ =>
    split
    · exact grounds_of_still (returnStart_moves (ph := .settle) (lawful := False) (v := a.vent) nofun).still
    · rfl
  · rfl

theorem offer_grounds (f : Frame) (a : Option Nat) (s : State) : (offer f a s).grounds = s.grounds := by
  unfold offer
  split
  · rfl
  · rfl
  · rfl
  · exact (drawLost_grounds _ _).trans rfl

theorem forEight_grounds {f : State → Fin 8 → State} (hf : ∀ u z, (f u z).grounds = u.grounds) (s : State) :
    (forEight f s).grounds = s.grounds := by
  have fold : ∀ (l : List (Fin 8)) (u : State), (l.foldl f u).grounds = u.grounds := by
    intro l
    induction l with
    | nil => exact fun _ => rfl
    | cons z l ih => exact fun u => (ih (f u z)).trans (hf u z)
  exact fold eight s

theorem endOfJoinAlarms_grounds (s : State) : (endOfJoinAlarms s).grounds = s.grounds := by
  unfold endOfJoinAlarms
  simp only
  rw [forEight_grounds fun u z => ?_]
  · split <;> rfl
  · split
    · exact offer_grounds _ _ u
    · rfl

theorem joined_grounds (s : State) : (joined s).grounds = s.grounds := by
  have e := endOfJoinAlarms_grounds (s.withBoot { s.boot with station := .run, joinEnds := none })
  have beat : ∀ u : State, (startHeartbeat u).grounds = u.grounds := fun _ => rfl
  exact ((beat _).trans e).trans rfl

theorem patternInputs_of_grounds (h : t.grounds = s.grounds) : t.patternInputs = s.patternInputs := by
  simp only [State.grounds, Prod.mk.injEq] at h
  obtain ⟨h1, h2, h3, -⟩ := h
  simp only [State.patternInputs, h1, h2, h3]

/-- R16: the FIRE record that the pattern gives follows from the grounds. -/
theorem firePattern_of_grounds (h : t.grounds = s.grounds) (hp : s.firePatternHolds v) : t.firePatternHolds v := by
  have inputs := patternInputs_of_grounds h
  simp only [State.grounds, Prod.mk.injEq] at h
  obtain ⟨-, -, -, -, h5, h6⟩ := h
  rw [State.firePatternHolds, patternRecord_of_inputs inputs h6, h5]
  exact hp

/-! ### The demands handed on (R24, R60) -/

/-- R24, R60: what the handing on of every demand makes of one vent. -/
theorem handOnAll_at (hd : s.DriveLaw) (v : VentId) : ∃ u, Keeps v s u ∧ u.still = s.still ∧ u.DriveLaw ∧
    Keeps v (if s.used v then handOnVent v u else u) (handOnAll s) ∧ (handOnAll s).still = s.still ∧
    (handOnAll s).DriveLaw := by
  obtain ⟨u, h1, h2, h3, h4, h5, h6⟩ := forEight_at (fun s v => if s.used v then handOnVent v s else s) (fun u w hu => by
    split
    · exact handOnVent_moves fun _ => hu
    · exact .refl) hd v
  simp only [used_of_still h2] at h4
  exact ⟨u, h1, h2, h3, h4, h5, h6⟩

/-- R17, R35, R86, R100: no record follows the passage. -/
theorem passage_unmoved (hj : s.boot.station = .join) (hd : s.DriveLaw) : syncRecords s (enterRun s) = enterRun s := by
  have m : Path (· = .settle) True s (joined s) := joined_path hj rfl fun _ => hd
  have dj := m.obeys (fun _ => hd) trivial
  have locks : ∀ v : VentId, (enterRun s).vents[v.val].state = .locked → s.vents[v.val].state = .locked := fun v h => by
    obtain ⟨u, k1, -, k3, k4, -, -⟩ := handOnAll_at dj v
    rw [← enterRun_eq] at k4
    have hand : Path (· = .settle) True u (if (joined s).used v then handOnVent v u else u) := by
      split
      · exact (handOnVent_moves fun _ => k3).path rfl
      · exact .refl
    have e1 := hand.stuck (v := v) (fun ph k => by subst k; trivial) (.inl (by rw [← k4.vent]; exact h))
    have hu : (joined s).vents[v.val].state = .locked := by rw [← k1.vent, ← e1, ← k4.vent]; exact h
    have e2 := m.stuck (v := v) (fun ph k => by subst k; trivial) (.inl hu)
    rw [← e2]; exact hu
  obtain ⟨_, -, -, -, -, e, -⟩ := handOnAll_at dj 0
  rw [← enterRun_eq] at e
  have g := (grounds_of_still e).trans (joined_grounds s)
  simp only [State.grounds, Prod.mk.injEq] at g
  obtain ⟨g1, g2, g3, g4, -⟩ := g
  exact syncRecords_unmoved g1 g2 g3 g4 locks

/-- R24, R54, R83: through the passage to RUN the direction of the last run stands, or a run is found not taken. -/
theorem passage_heads (c : Causes) (ht : finish c s (enterRun s) = t) (hj : s.boot.station = .join) (hd : s.DriveLaw)
    (hl : s.RunLaw) (hp : s.firePatternHolds v) (h : Heads (s.freshRun v) v d s) : KeepsDir s v d t := by
  have m : Path (· = .effect) True s (joined s) := joined_path hj rfl fun _ => hd
  have dj := m.obeys (fun _ => hd) trivial
  have lj := m.runLaw hd hl
  have heads := m.heads (fun ph k => by subst k; exact ⟨nofun, nofun⟩) h
  have still := passage_unmoved hj hd
  have pj := firePattern_of_grounds (joined_grounds s) hp
  obtain ⟨u, k1, k2, k3, k4, k5, k6⟩ := handOnAll_at dj v
  have lx := (enterRun_path (lawful := True) hj fun _ => hd).runLaw hd hl
  rw [← enterRun_eq] at k4 k5 k6
  have g := (grounds_of_still k5).trans (joined_grounds s)
  simp only [State.grounds, Prod.mk.injEq] at g
  obtain ⟨-, -, -, -, g5, g6⟩ := g
  have kept (k : Heads (s.freshRun v) v d (enterRun s)) : KeepsDir s v d t :=
    finish_heads c ht k k6 lx g6 (by rw [g5]) hp
  by_cases hu : (joined s).used v = true
  · rw [if_pos hu] at k4
    rcases handOnVent_heads (heads.of_vent k1.vent k1.now) (by rw [k1.vent]; exact headed_of_runLaw lj v) k3
      with k | ⟨j1, j2, j3, j4⟩
    · exact kept (k.of_vent k4.vent k4.now)
    · have found : s.freshRun v := (heads.of_vent k1.vent k1.now).fresh j1
      have he : ((joined s).effective v).1 = .hold := by rw [← effective_of_still k2]; exact j2
      have hold : (handOnVent v u).vents[v.val].target = .hold := (congrArg Prod.fst (handOnVent_held v u)).trans j2
      have w : Withdrawn s v (enterRun s) :=
        ⟨found, handed_settled k2 k4 k5 k6 (hold_above hu pj he), by rw [k4.vent]; exact j3, by rw [k4.vent]; exact j4,
          by rw [k4.vent]; exact hold⟩
      have locked : s.vents[v.val].state = .locked → (enterRun s).vents[v.val].state = .locked :=
        fun k => absurd k (Withdrawn.unlocked found)
      obtain ⟨a1, a2⟩ := w.settled.settle (before := s) (fun w => !(enterRun s).awaitsCalls w) locked
      have ea : align s (enterRun s) = settleDemands (fun w => !(enterRun s).awaitsCalls w) s (enterRun s) := by
        rw [align, still]
      rw [← ea] at a1 a2
      have b : Withdrawn s v (balanced c s (enterRun s)) := (w.keeps a1 a2).rebalance _
      have e := b.finish
      rw [ht] at e
      exact .inr ⟨found, by rw [e]; exact b.state, by rw [e]; exact b.hold, by rw [e]; exact b.dir⟩
  · rw [if_neg hu] at k4
    exact kept ((heads.of_vent k1.vent k1.now).of_vent k4.vent k4.now)

end Sys2Proof.Machine
end

section
/-! CERTIFICATES. A vent reverses only through a DWELL (O12). -/

open Sys2Proof Sys2Proof.Machine

/-- R40, R43, R83: the direction of the last run through a completed event. -/
theorem ended_dir {i : Instr} {s t : State} {v : VentId} {d : Dir} (h : Ended i True s t) (hd : s.DriveLaw) (hl : s.RunLaw)
    (hp : s.firePatternHolds v) (hv : s.vents[v.val].lastDir = some d) : KeepsDir s v d t ∨
      s.vents[v.val].state = .dwell ∧ ∃ dt e, i = .dwellExpiry dt v ∧ s.vents[v.val].dwellEnds = some e ∧ e ≤ s.now := by
  have start : Heads (s.freshRun v) v d s := ⟨hv, id⟩
  cases h with
  | quiet h =>
    have e : t.vents = s.vents := (congrArg State.vents h :)
    exact .inl (.inl (by rw [e]; exact hv))
  | finished c h =>
    obtain ⟨u, hu, p⟩ := h
    rcases hu.heads start with k | k
    swap
    · exact .inr k
    have law : u.DriveLaw ∧ u.RunLaw ∧ u.image = s.image ∧ u.demand = s.demand := by
      rcases hu.move (lawful := True) with rfl | ⟨w, m⟩
      · exact ⟨hd, hl, rfl, rfl⟩
      · exact ⟨m.driveLaw trivial hd, m.runLaw trivial hd hl, image_of_still m.still, demand_of_still m.still⟩
    obtain ⟨du, lu, iu, mu⟩ := law
    refine .inl (finish_heads c rfl (p.heads (fun ph k => ?_) k) (p.obeys (fun _ => du) trivial) (p.runLaw du lu)
      (p.image.trans iu) ((p.sameFire nofun v).trans (by rw [mu])) hp)
    rw [show ph = .effect from k]; exact ⟨nofun, nofun⟩
  | passed c hj => exact .inl (passage_heads c rfl hj hd hl hp start)

/-- R57: a DWELL that an event does not end keeps its end. -/
theorem exec_dwells {i : Instr} {s t u : State} {v : VentId} (h : exec i s = .next t) (hu : Judged i (s.tick (timeOf i)) u)
    (p : Path Phase.plain True u t) (hd : s.DriveLaw) (hp : ∀ w, s.firePatternHolds w) (hs : s.vents[v.val].state = .dwell)
    (ht : t.vents[v.val].state = .dwell) : t.vents[v.val].dwellEnds = s.vents[v.val].dwellEnds := by
  rcases hu.dwells (v := v) hs with k | ⟨dt, e, rfl, -, -⟩
  · exact (p.dwells (by simp [Phase.plain]) k.state).ends.trans k.ends
  rw [exec, execDwellExpiry, plainEvent] at h
  by_cases k : ((s.tick dt).inRun && (s.tick dt).vents[v].state == .dwell &&
      due (s.tick dt).vents[v].dwellEnds (s.tick dt).now) = true
  · rw [event_taken dt _ _ _ s k] at h
    exact absurd ht (endDwell_leaves (s := s.tick dt) (Host.Outcome.next.inj h) hd hp hs)
  · rw [event_notTaken dt _ _ _ s (by simpa using k)] at h
    rw [← Host.Outcome.next.inj h]
    rfl

/-- Settles O12: every part of an event keeps the direction of the last run but for a verdict that ends a DWELL and a HOLD that
finds a run not taken (`ended_dir`); only that verdict ends a DWELL, and the vent does not dwell again (`endDwell_leaves`); and the
run law gives a running vent its direction. -/
theorem reversalsDwell : Obligations.ReversalsDwell := by
  intro i s t hd ha hl hi hn h v
  have hp : ∀ w, s.firePatternHolds w := fun w => (ha.2.2 w).1
  have law := exec_runLaw h hd hl
  have ended := (exec_ended (lawful := True) h fun _ => hd).resolve_left (not_startsUp hi hn)
  obtain ⟨u, hu, p⟩ := (exec_path (lawful := True) h fun _ => hd).resolve_left (not_startsUp hi hn)
  have now : t.now = (s.tick (timeOf i)).now := by
    rcases hu.move (lawful := True) with rfl | ⟨w, m⟩
    · exact p.now
    · exact p.now.trans (now_of_still m.still)
  refine ⟨fun d hv => ?_, fun hs ht => exec_dwells h hu p hd hp hs ht, fun hs ht => ?_, fun d ht _ => (law.2.2 v d ht).1⟩
  · rcases ended_dir ended hd hl (hp v) hv with (k | ⟨⟨f1, f2, f3⟩, k⟩) | ⟨k1, dt, e, rfl, k2, k3⟩
    · exact .inl k
    · exact .inr (.inr ⟨f1, f2, f3.trans now.symm, k⟩)
    · exact .inr (.inl ⟨k1, dt, e, rfl, k2, k3⟩)
  · exact p.dwell_begins (by simp [Phase.plain]) (hu.dwell_begins hs) ht

end
